-- ==== Sys2Proof/Word.lean ====
section
/-! DEFINITION. The word types of the part's boundaries (R1, R196). -/

namespace Sys2Proof

/-- One byte of a frame, of a management transaction, or of a line. -/
abbrev Byte := BitVec 8

/-- The bytes of one line, the byte at the line's lowest address first (R197). A well-formed one has 64 bytes. -/
abbrev LineData := List Byte

/-- A line address on the table memory link: the byte address divided by 64, 30 bits (R1, R29). -/
abbrev LineAddr := BitVec 30

/-- The byte mask of a WRITE: flag k is the flag of line byte k (R29, R197). -/
abbrev ByteMask := BitVec 64

end Sys2Proof
end

