-- ==== Sys2Proof/Syntax.lean ====
section
/-! DEFINITION. The commands of the block: one constructor of `Instr` per row of spec/opcode_table.json. -/

namespace Sys2Proof

/-- A request of the client on the table memory link (R21, R29). -/
inductive ClientRequest where
  | read  (tag : Fin 64) (addr : LineAddr)
  | write (tag : Fin 64) (addr : LineAddr) (mask : ByteMask) (data : LineData)
  deriving DecidableEq, Repr

/-- A response of the memory side (2.1). The memory side never sends REFUSED (R29). -/
inductive MemResponse where
  | data (tag : Nat) (bytes : LineData) (poison : Bool)
  | done (tag : Nat) (fail : Bool)
  deriving DecidableEq, Repr

/-- One command of the block. A management command carries the parameter bytes of its write transaction (R177, R199);
`frameArrival` carries the bytes of a whole frame, CRC included (R103); `keepaliveExpiry` carries whether the transmitter is
ready at the expiry (R92); `setFence` carries the level of the fence-lock strap at the end of the transaction (R16);
the releases carry the address straps as sampled (R178). -/
inductive Instr where
  | clientRequestArrival (request : ClientRequest)
  | arbitration
  | memoryResponse (response : MemResponse)
  | visit
  | granuleClose
  | txqSend
  | returnListSend
  | keepaliveExpiry (ready : Bool)
  | silentLimitExpiry
  | handshakeExpiry
  | holdTimerExpiry
  | linkUp
  | linkDown
  | frameArrival (bytes : List Byte)
  | status (params : List Byte)
  | arm (params : List Byte)
  | disarm (params : List Byte)
  | setSession (params : List Byte)
  | loadExtent (params : List Byte)
  | planClear (params : List Byte)
  | setFence (flock : Bool) (params : List Byte)
  | lockFences (params : List Byte)
  | start (params : List Byte)
  | listen (params : List Byte)
  | pause (params : List Byte)
  | resume (params : List Byte)
  | skipLevel (params : List Byte)
  | skipExtent (params : List Byte)
  | cutover (params : List Byte)
  | detach (params : List Byte)
  | takeover (params : List Byte)
  | abort (params : List Byte)
  | setShare (params : List Byte)
  | readCursor (params : List Byte)
  | readPass (params : List Byte)
  | readMap (params : List Byte)
  | readEvent (params : List Byte)
  | ackAlerts (params : List Byte)
  | setMask (params : List Byte)
  | clearCounters (params : List Byte)
  | resetEnable (params : List Byte)
  | reset (params : List Byte)
  | unknown (byte : Byte) (params : List Byte)
  | powerOn
  | powerOnRelease (straps : BitVec 3)
  | lineReset
  | lineResetRelease (straps : BitVec 3)
  deriving DecidableEq, Repr

end Sys2Proof
end

