-- ==== Sys2Proof/WellFormed.lean ====
section
/-! DEFINITION. Which commands the part's boundaries can deliver. -/

namespace Sys2Proof

/-- Line data is the 64 bytes of one line (R29). -/
def LineData.wf (d : LineData) : Bool := d.length == 64

/-- A WRITE of the client carries a whole line of data. -/
def ClientRequest.wf : ClientRequest → Bool
  | .read _ _ => true
  | .write _ _ _ d => LineData.wf d

/-- A DATA of the memory side carries a whole line of data. -/
def MemResponse.wf : MemResponse → Bool
  | .data _ d _ => LineData.wf d
  | .done _ _ => true

/-- The command bytes of the set (R199). -/
def commandBytes : List Byte :=
  [0x01#8, 0x02#8, 0x03#8, 0x10#8, 0x11#8, 0x12#8, 0x13#8, 0x14#8, 0x20#8, 0x21#8, 0x22#8, 0x23#8, 0x24#8,
   0x25#8, 0x26#8, 0x27#8, 0x28#8, 0x30#8, 0x31#8, 0x32#8, 0x33#8, 0x34#8, 0x35#8, 0x36#8, 0x37#8, 0x3A#8, 0x3B#8]

/-- A command is well formed when its operands are ones its row can carry: whole lines, a byte that names no command for
UNKNOWN, for SKIP_EXTENT the byte that names it and for SKIP_LEVEL every other parameter bytes (R63, R199; log 21). -/
def Instr.wf : Instr → Bool
  | .clientRequestArrival r => r.wf
  | .memoryResponse r => r.wf
  | .skipLevel ps => ps != [2#8]
  | .skipExtent ps => ps == [2#8]
  | .unknown b _ => !commandBytes.contains b
  | .arbitration | .visit | .granuleClose | .txqSend | .returnListSend | .keepaliveExpiry _ | .silentLimitExpiry
  | .handshakeExpiry | .holdTimerExpiry | .linkUp | .linkDown | .frameArrival _ | .status _ | .arm _ | .disarm _
  | .setSession _ | .loadExtent _ | .planClear _ | .setFence _ _ | .lockFences _ | .start _ | .listen _ | .pause _
  | .resume _ | .cutover _ | .detach _ | .takeover _ | .abort _ | .setShare _ | .readCursor _ | .readPass _
  | .readMap _ | .readEvent _ | .ackAlerts _ | .setMask _ | .clearCounters _ | .resetEnable _ | .reset _
  | .powerOn | .powerOnRelease _ | .lineReset | .lineResetRelease _ => true

end Sys2Proof
end

