-- ==== Sys2Proof/Decode.lean ====
section
/-! DEFINITION. From the bytes of a management write transaction to the command they give, and back (R177, R199).
No row of spec/opcode_table.json has bits, so `decodeTableWord` reads no word. -/

namespace Sys2Proof

/-- The command a word of the opcode table spells. The table gives no row any bits, so no word spells a command. -/
def decodeTableWord (_nbits _w : Nat) : Option Instr := none

/-- The 7-bit I2C address at which a part with these address straps answers (R178). -/
def i2cAddress (straps : BitVec 3) : Nat := 0x28 + straps.toNat

/-- The command of a command byte with its parameter bytes, the strap level being that at the end of the transaction (R199).
A byte outside the table gives UNKNOWN. A SKIP is the row of what it names; one that names neither is given under SKIP_LEVEL. -/
def Instr.ofCommand (flock : Bool) (b : Byte) (ps : List Byte) : Instr :=
  if b = 0x01#8 then .status ps
  else if b = 0x02#8 then .arm ps
  else if b = 0x03#8 then .disarm ps
  else if b = 0x10#8 then .setSession ps
  else if b = 0x11#8 then .loadExtent ps
  else if b = 0x12#8 then .planClear ps
  else if b = 0x13#8 then .setFence flock ps
  else if b = 0x14#8 then .lockFences ps
  else if b = 0x20#8 then .start ps
  else if b = 0x21#8 then .listen ps
  else if b = 0x22#8 then .pause ps
  else if b = 0x23#8 then .resume ps
  else if b = 0x24#8 then (if ps = [2#8] then .skipExtent ps else .skipLevel ps)
  else if b = 0x25#8 then .cutover ps
  else if b = 0x26#8 then .detach ps
  else if b = 0x27#8 then .takeover ps
  else if b = 0x28#8 then .abort ps
  else if b = 0x30#8 then .setShare ps
  else if b = 0x31#8 then .readCursor ps
  else if b = 0x32#8 then .readPass ps
  else if b = 0x33#8 then .readMap ps
  else if b = 0x34#8 then .readEvent ps
  else if b = 0x35#8 then .ackAlerts ps
  else if b = 0x36#8 then .setMask ps
  else if b = 0x37#8 then .clearCounters ps
  else if b = 0x3A#8 then .resetEnable ps
  else if b = 0x3B#8 then .reset ps
  else .unknown b ps

/-- The command of a write transaction's bytes after the address. A transaction with no command byte gives none and is
ignored (R178). -/
def Instr.ofWrite (flock : Bool) : List Byte → Option Instr
  | [] => none
  | b :: ps => some (Instr.ofCommand flock b ps)

/-- The bytes of the write transaction that gives a management command; none for an event of another port (R199). -/
def Instr.toWrite : Instr → Option (List Byte)
  | .status ps => some (0x01#8 :: ps)
  | .arm ps => some (0x02#8 :: ps)
  | .disarm ps => some (0x03#8 :: ps)
  | .setSession ps => some (0x10#8 :: ps)
  | .loadExtent ps => some (0x11#8 :: ps)
  | .planClear ps => some (0x12#8 :: ps)
  | .setFence _ ps => some (0x13#8 :: ps)
  | .lockFences ps => some (0x14#8 :: ps)
  | .start ps => some (0x20#8 :: ps)
  | .listen ps => some (0x21#8 :: ps)
  | .pause ps => some (0x22#8 :: ps)
  | .resume ps => some (0x23#8 :: ps)
  | .skipLevel ps => some (0x24#8 :: ps)
  | .skipExtent ps => some (0x24#8 :: ps)
  | .cutover ps => some (0x25#8 :: ps)
  | .detach ps => some (0x26#8 :: ps)
  | .takeover ps => some (0x27#8 :: ps)
  | .abort ps => some (0x28#8 :: ps)
  | .setShare ps => some (0x30#8 :: ps)
  | .readCursor ps => some (0x31#8 :: ps)
  | .readPass ps => some (0x32#8 :: ps)
  | .readMap ps => some (0x33#8 :: ps)
  | .readEvent ps => some (0x34#8 :: ps)
  | .ackAlerts ps => some (0x35#8 :: ps)
  | .setMask ps => some (0x36#8 :: ps)
  | .clearCounters ps => some (0x37#8 :: ps)
  | .resetEnable ps => some (0x3A#8 :: ps)
  | .reset ps => some (0x3B#8 :: ps)
  | .unknown b ps => some (b :: ps)
  | .clientRequestArrival _ | .arbitration | .memoryResponse _ | .visit | .granuleClose | .txqSend | .returnListSend
  | .keepaliveExpiry _ | .silentLimitExpiry | .handshakeExpiry | .holdTimerExpiry | .linkUp | .linkDown
  | .frameArrival _ | .powerOn | .powerOnRelease _ | .lineReset | .lineResetRelease _ => none

/-- The strap level a command carries; low for a command that carries none. -/
def Instr.flock : Instr → Bool
  | .setFence f _ => f
  | _ => false

end Sys2Proof
end

