-- ==== Sys2Proof/Config.lean ====
section
/-! DEFINITION. The fixed sizes and limits of the part (00_scope.md, Parameters at a glance).
The spec leaves no result of a command undefined, so there is no free value here. -/

namespace Sys2Proof.Config

/-- Lines of one granule (R1). -/
def linesPerGranule : Nat := 1024
/-- Granules of the 36-bit byte address space, and the largest span (R1, R2). -/
def maxGranules : Nat := 1048576
/-- Places of the ingress queue, and the client credits issued at initialisation (R24, R25). -/
def ingressPlaces : Nat := 32
/-- Memory-side credits (R29). -/
def memoryCredits : Nat := 48
/-- The first own tag, and how many own tags there are (R29, R30). -/
def firstOwnTag : Nat := 64
def ownTags : Nat := 16
/-- Places of the TXQ (R84), and the sweep ceiling (R69). -/
def txqPlaces : Nat := 64
def sweepCeiling : Nat := 48
/-- Places of the pending mark list (R89). -/
def pendingMarkPlaces : Nat := 8
/-- Records of the MRL (R94). -/
def mrlPlaces : Nat := 128
/-- Slots of the TARGET receive buffer, and the largest send credit count (R91, R108). -/
def bufferSlots : Nat := 32
/-- Freed, unreported slots at which a CREDIT falls due (R116). -/
def creditThreshold : Nat := 8
/-- Places of the return list (R100). -/
def returnPlaces : Nat := 16
/-- Slots of a fence table (R12, R13). -/
def fenceSlots : Nat := 8
/-- Extents of the copy plan, and levels of one extent (R58). -/
def planExtents : Nat := 16
def extentLevels : Nat := 3
/-- The largest value of a 24-bit and of a 16-bit saturating quantity (R10, R70, R75, R151, R153, R185). -/
def max24 : Nat := 16777215
def max16 : Nat := 65535
/-- The handshake timeout, in µs (R129). -/
def handshakeLimit : Nat := 10000
/-- Cutover attempts before the SOURCE disarms (R170), and the nonconvergence streak that triggers (R155). -/
def cutoverAttempts : Nat := 3
def streakLimit : Nat := 3
/-- The largest share, in sixteenths (R156). -/
def maxShare : Nat := 15

end Sys2Proof.Config
end

