-- ==== Sys2Proof/Machine/State.lean ====
section
/-! DEFINITION. The state of the part, unit by unit, as plain data, and the state after reset.
The unit names are the spec's (00_scope.md, Block overview). INVENTORY.md lists each field with its rule and reset value. -/

namespace Sys2Proof.Machine

open Sys2Proof

/-! ### Names -/

/-- Whether the part runs or stands in a reset that has not been released (R190, R191). -/
inductive Phase where
  | running | inPowerOn | inLine
  deriving DecidableEq, Repr

/-- The role (7.1). -/
inductive Role where
  | none | source | target
  deriving DecidableEq, Repr

/-- The session states of both roles (7.1). -/
inductive SessionState where
  | idle | listen | handshake | sweep | rinse | cutover | shadow | filling | fault
  deriving DecidableEq, Repr

/-- The granule states (1.2). -/
inductive GranuleState where
  | uncopied | copied | dirty | excluded
  deriving DecidableEq, Repr

/-- The fence lock modes (R16). `unlocked` is the mode OPEN. -/
inductive LockMode where
  | unlocked | strap | session
  deriving DecidableEq, Repr

/-- Result codes (R179). -/
inductive ResultCode where
  | ok | state | unarmed | locked | param | unknown
  deriving DecidableEq, Repr

/-- Fault reasons (R137). -/
inductive FaultReason where
  | handshakeTimeout | linkDown | silent | releasedUnsynced | answerLost
  deriving DecidableEq, Repr

/-- The answers of a REPLY (R197). -/
inductive ReplyAnswer where
  | accept | refuseSpan | refuseState
  deriving DecidableEq, Repr

/-- Kinds of reset (R189). -/
inductive ResetKind where
  | powerOn | line | command
  deriving DecidableEq, Repr

/-- The test points of a pass record (R159). -/
inductive TestPoint where
  | passEnd | deferred | resume | command
  deriving DecidableEq, Repr

/-- The alert kinds, in the order of their numbers 0 … 11 (R186, R199). -/
inductive Alert where
  | passEnd | eligible | cutoverDone | cutoverAbort | cutoverGiveup | nonconvergent | syncLost | txqHigh | linkLost
  | fault | peerTakeover | released
  deriving DecidableEq, Repr

/-- The sticky counters (R185); `protect` is PROTECTED. -/
inductive Counter where
  | degraded | discarded | protect | protocol | poisoned | needs | losses | refusedWrites | readyLate
  deriving DecidableEq, Repr

/-- Kinds of the event capture record (R183); `protect` is PROTECTED. -/
inductive EventKind where
  | none | degrade | discard | need | loss | writeFail | poison | refusedWrite | protect
  deriving DecidableEq, Repr

/-- The detail of an event, with its tag (R183). -/
inductive Detail where
  | absent
  | sequence (s : BitVec 16)
  | lineAddr (a : Nat)
  | frameKind (k : Byte)
  | markKind (k : Byte)
  deriving DecidableEq, Repr

/-! ### Fences and the map (GM) -/

/-- A fence record (R11). -/
structure Fence where
  first : Nat
  length : Nat
  invert : Bool
  deriving DecidableEq, Repr

/-- The census (R9). -/
structure Census where
  uncopied : Nat
  copied : Nat
  dirty : Nat
  excluded : Nat
  deriving DecidableEq, Repr

/-- The granule map unit. A map in effect is the list of the states of granules 0 … span−1 (R2, R4); the open granule of R5
is the granule of SE's open record. `nc` and `nd` count since the last pass start; `ndNext` holds the transitions into DIRTY taken while
SE is WAITING or DEFERRED, which count toward the next pass (R10, R150; log 38). -/
structure Gm where
  map : Option (List GranuleState)
  census : Census
  nc : Nat
  nd : Nat
  ndNext : Nat
  localFences : List (Option Fence)
  peerFences : List (Option Fence)
  lock : LockMode
  deriving DecidableEq, Repr

/-! ### Frames (R197) -/

/-- The mark kinds with their values (R197). -/
inductive MarkKind where
  | passEnd (pass : BitVec 16) (d : BitVec 24)
  | cutoverBegin (attempt : Byte)
  | cutoverEnd
  | cutoverAbort (attempt : Byte)
  | syncLost
  | release
  deriving DecidableEq, Repr

/-- A fence record as a REPLY carries it (11.3): the fields as received, not yet judged. -/
structure WireFence where
  first : BitVec 24
  length : BitVec 24
  invert : Bool
  deriving DecidableEq, Repr

/-- The stream frames (R197), each numeric field at its width on the wire. -/
inductive Frame where
  | hello (session : Byte) (span : BitVec 24) (first : BitVec 16)
  | opening (granule : BitVec 24) (openNo : Byte)
  | line (openNo : Byte) (poison : Bool) (index : BitVec 10) (data : LineData)
  | close (granule : BitVec 24) (openNo : Byte)
  | mirror (seq : BitVec 16) (addr : BitVec 32) (mask : ByteMask) (data : LineData)
  | mark (session : Byte) (kind : MarkKind)
  | keep
  | reply (session : Byte) (answer : ReplyAnswer) (fences : List WireFence)
  | credit (freed : Byte) (ack : BitVec 16)
  | need (granule : BitVec 24)
  | loss (first : BitVec 16) (count : BitVec 16)
  | ready (session : Byte) (ok : Bool)
  | taken (session : Byte)
  deriving DecidableEq, Repr

/-! ### CP and MP -/

/-- The client port. `credits` is CP's account of the credits the client holds (R24). -/
structure Cp where
  queue : List ClientRequest
  hold : Bool
  credits : Nat
  deriving DecidableEq, Repr

/-- The kind of a request at the memory side (R30). -/
inductive RequestKind where
  | read | write | writePoison
  deriving DecidableEq, Repr

/-- The class of a request record, with the purpose of an OWN one (R30). A sweep read whose slot is gone (R81) has slot
`none`; an apply write whose status will be dropped (R115) is not `live`. -/
inductive Owner where
  | client
  | sweep (slot : Option (Byte × BitVec 10))
  | apply (granule : Nat) (live : Bool)
  deriving DecidableEq, Repr

/-- A record of the memory port request table (R30). -/
structure MemRecord where
  tag : Nat
  owner : Owner
  kind : RequestKind
  addr : LineAddr
  deriving DecidableEq, Repr

/-- The memory port. The table is in grant order. -/
structure Mp where
  credits : Nat
  table : List MemRecord
  k : Nat
  deriving DecidableEq, Repr

/-! ### SE -/

/-- A level of an extent: a count 1 … 4,096 and a stride (R58). -/
structure Level where
  count : Nat
  stride : Nat
  deriving DecidableEq, Repr

/-- An extent of the copy plan, its levels outermost first (R58). -/
structure Extent where
  first : Nat
  levels : List Level
  deriving DecidableEq, Repr

/-- The plan cursor (R61); `remaining` holds the remaining counts of the current extent's levels, outermost first. -/
structure Cursor where
  extent : Nat
  remaining : List Nat
  next : Option Nat
  done : Bool
  deriving DecidableEq, Repr

/-- The open granule record (R64). -/
structure OpenRecord where
  granule : Nat
  openNo : Byte
  nextLine : Nat
  returned : Nat
  stale : Bool
  poison : Nat
  deriving DecidableEq, Repr

/-- The sweep engine (R58, R61, R64, R70). -/
structure Se where
  plan : List Extent
  cursor : Cursor
  opened : Option OpenRecord
  openNo : Byte
  passNo : Nat
  passTimer : Nat
  scanIdx : Nat
  running : Bool
  waiting : Bool
  paused : Bool
  deferred : Bool
  deriving DecidableEq, Repr

/-! ### ST -/

/-- A µs timer that may stand stopped. -/
structure Timer where
  running : Bool
  count : Nat
  deriving DecidableEq, Repr

/-- An entry of the TXQ (R84): a complete frame, or a reserved LINE slot with its data once SE has filled it. -/
inductive TxEntry where
  | frame (f : Frame)
  | slot (openNo : Byte) (index : BitVec 10) (filled : Option (Bool × LineData))
  deriving DecidableEq, Repr

/-- A mark with its session number, waiting in the pending mark list (R89). -/
structure PendingMark where
  session : Byte
  kind : MarkKind
  deriving DecidableEq, Repr

/-- A record of the MRL (R94). -/
structure MirrorRecord where
  seq : BitVec 16
  granule : Nat
  deriving DecidableEq, Repr

/-- The stream transmitter (chapter 5). -/
structure St where
  txq : List TxEntry
  pendingMarks : List PendingMark
  mrl : List MirrorRecord
  sendCredits : Nat
  mirrorSeq : BitVec 16
  newestSent : Option (BitVec 16)
  keepalive : Timer
  keepDue : Bool
  returnList : List Frame
  deriving DecidableEq, Repr

/-! ### SR -/

/-- The open latch when it holds a granule, with the count of lines applied under it (R109). -/
structure Latch where
  granule : Nat
  openNo : Byte
  applied : Nat
  deriving DecidableEq, Repr

/-- An answer that the frame at the head still has to append to the return list (R108). -/
inductive Answer where
  | need (granule : Nat)
  | loss (first : BitVec 16) (count : BitVec 16)
  | refuse (session : Byte)
  | ready
  deriving DecidableEq, Repr

/-- An apply write on offer to MP (R114); `poison` asks for WRITE-POISON; `seq` is the sequence of a MIRROR. -/
structure ApplyWrite where
  poison : Bool
  addr : LineAddr
  mask : ByteMask
  data : LineData
  granule : Nat
  seq : Option (BitVec 16)
  deriving DecidableEq, Repr

/-- What processing made of the frame at the head of the receive buffer (R108). -/
structure Head where
  answers : List Answer
  apply : Option ApplyWrite
  deriving DecidableEq, Repr

/-- The silent timer (R106): the µs of the current interval and the intervals passed without a good frame. -/
structure Silent where
  running : Bool
  us : Nat
  intervals : Nat
  deriving DecidableEq, Repr

/-- A pass report of the SOURCE (R118). -/
structure PassReport where
  pass : Nat
  d : Nat
  deriving DecidableEq, Repr

/-- The stream receiver (chapter 6). -/
structure Sr where
  buffer : List Frame
  head : Option Head
  latch : Option Latch
  expected : BitVec 16
  lastGranted : BitVec 16
  clean : Bool
  freed : Nat
  creditDue : Bool
  failedApply : List Nat
  lastReport : Option PassReport
  overflow : Bool
  silent : Silent
  deriving DecidableEq, Repr

/-! ### SC and CVU -/

/-- The session parameters but for the role (R181). Span 0 is "not set"; `share` is the share parameter. -/
structure Params where
  span : Nat
  manual : Bool
  stall : Bool
  dMax : Nat
  hLimit : Nat
  qAllow : Nat
  ki : Nat
  sl : Nat
  share : Nat
  deriving DecidableEq, Repr

/-- The session controller (R125, R147, R165, R166). -/
structure Sc where
  role : Role
  state : SessionState
  session : Byte
  params : Params
  linkUp : Bool
  handshake : Timer
  releasePending : Bool
  takeoverPending : Bool
  takenWaiting : Bool
  startFail : Option ReplyAnswer
  faultReason : Option FaultReason
  synced : Bool
  unsynced : Bool
  holdTimer : Timer
  awaitingReady : Bool
  deriving DecidableEq, Repr

/-- The pass record (R159). -/
structure PassRecord where
  valid : Bool
  passNo : Nat
  t : Nat
  nc : Nat
  nd : Nat
  d : Nat
  c : Nat
  cHeld : Bool
  r : Nat
  h : Nat
  eligible : Bool
  converging : Bool
  streak : Nat
  point : TestPoint
  deriving DecidableEq, Repr

/-- The convergence unit (R149). -/
structure Cvu where
  heldC : Nat
  record : PassRecord
  streak : Nat
  share : Nat
  armed : Bool
  attempts : Nat
  deriving DecidableEq, Repr

/-! ### MGP and AU -/

/-- The reply buffer (R177). -/
structure Reply where
  code : ResultCode
  data : List Byte
  deriving DecidableEq, Repr

/-- The event capture record (R183). -/
structure EventRecord where
  kind : EventKind
  granule : Option Nat
  detail : Detail
  pass : Nat
  unread : Bool
  overrun : Bool
  deriving DecidableEq, Repr

/-- The nine sticky counters (R185). -/
structure Counters where
  degraded : Nat
  discarded : Nat
  protect : Nat
  protocol : Nat
  poisoned : Nat
  needs : Nat
  losses : Nat
  refusedWrites : Nat
  readyLate : Nat
  deriving DecidableEq, Repr

/-- The management port (chapter 10); `straps` are the address straps as last sampled (R178). -/
structure Mgp where
  armLatch : Bool
  resetEnable : Bool
  reply : Reply
  lastResult : ResultCode
  event : EventRecord
  counters : Counters
  cause : ResetKind
  straps : BitVec 3
  deriving DecidableEq, Repr

/-- The alert unit: one bit per alert kind in the latch and in the mask; a set mask bit masks its kind (R186, R187). -/
structure Au where
  latch : BitVec 12
  mask : BitVec 12
  deriving DecidableEq, Repr

/-! ### What crosses the boundary -/

/-- A response CP delivers to the client (R22). -/
inductive ClientResponse where
  | data (bytes : LineData) (poison : Bool)
  | doneOk
  | doneFail
  | doneRefused
  deriving DecidableEq, Repr

/-- A request MP sends to the memory side (R29). -/
inductive MemRequest where
  | read (addr : LineAddr)
  | write (addr : LineAddr) (mask : ByteMask) (data : LineData)
  | writePoison (addr : LineAddr)
  deriving DecidableEq, Repr

/-- One thing the part puts out: credits or a response to the client, a request to the memory side, a frame to the
transmitter. -/
inductive Output where
  | clientCredits (n : Nat)
  | clientResponse (tag : Nat) (r : ClientResponse)
  | memRequest (tag : Nat) (r : MemRequest)
  | frame (bytes : List Byte)
  deriving DecidableEq, Repr

/-! ### The state -/

/-- The state of the part. `out` holds what crossed the boundary in the last step, oldest first, and `pending` the commands
waiting, the next at the front; both are the model's own (log 11, log 1). -/
structure State where
  phase : Phase
  cp : Cp
  mp : Mp
  gm : Gm
  se : Se
  st : St
  sr : Sr
  sc : Sc
  cvu : Cvu
  mgp : Mgp
  au : Au
  out : List Output
  pending : List Instr
  deriving DecidableEq, Repr

/-- There is no fault: the spec gives the block no event at which it stops (FAULT is a session state, R137). -/
inductive Fault where
  deriving DecidableEq, Repr

/-- Reasons a step has no meaning. -/
inductive Refusal where
  /-- The command's row has no meaning yet; raised by exec's arm alone; safe. -/
  | notModelled (mnemonic : String)
  deriving DecidableEq, Repr

/-! ### Named updates of one unit -/

def State.setPhase (s : State) (x : Phase) : State := { s with phase := x }
def State.setCp (s : State) (x : Cp) : State := { s with cp := x }
def State.setMp (s : State) (x : Mp) : State := { s with mp := x }
def State.setGm (s : State) (x : Gm) : State := { s with gm := x }
def State.setSe (s : State) (x : Se) : State := { s with se := x }
def State.setSt (s : State) (x : St) : State := { s with st := x }
def State.setSr (s : State) (x : Sr) : State := { s with sr := x }
def State.setSc (s : State) (x : Sc) : State := { s with sc := x }
def State.setCvu (s : State) (x : Cvu) : State := { s with cvu := x }
def State.setMgp (s : State) (x : Mgp) : State := { s with mgp := x }
def State.setAu (s : State) (x : Au) : State := { s with au := x }
def State.setOut (s : State) (x : List Output) : State := { s with out := x }
def State.setPending (s : State) (x : List Instr) : State := { s with pending := x }

/-! ### Reset values -/

/-- The census with no map in effect (R4, R20). -/
def Census.zero : Census := ⟨0, 0, 0, 0⟩

/-- Eight empty fence slots (R11, R20). -/
def emptyFences : List (Option Fence) := List.replicate Config.fenceSlots none

/-- A timer that stands stopped. Its count after a reset is 0 (DESIGN CHOICE, log 10). -/
def Timer.stopped : Timer := ⟨false, 0⟩

/-- The cleared cursor (R61). -/
def Cursor.cleared : Cursor := ⟨0, [], none, false⟩

/-- The defaults of the session parameters (R181). -/
def Params.defaults : Params := ⟨0, false, false, 64, 2000, 200, 100, 4, 4⟩

/-- The cleared pass record (R161). Its test point, for which the spec gives no value, is PASS_END (DESIGN CHOICE, log 41). -/
def PassRecord.cleared : PassRecord := ⟨false, 0, 0, 0, 0, 0, 0, false, 0, 0, false, false, 0, .passEnd⟩

/-- The event capture record after a reset (R183). -/
def EventRecord.cleared : EventRecord := ⟨.none, none, .absent, 0, false, false⟩

/-- The counters after a reset (R185). -/
def Counters.zero : Counters := ⟨0, 0, 0, 0, 0, 0, 0, 0, 0⟩

/-- GM after POWER_ON (R20). -/
def Gm.initial : Gm := ⟨none, .zero, 0, 0, 0, emptyFences, emptyFences, .unlocked⟩

/-- SE after POWER_ON (R83). -/
def Se.initial : Se := ⟨[], .cleared, none, 0, 0, 0, 0, false, false, false, false⟩

/-- ST after any reset (R102). -/
def St.initial : St := ⟨[], [], [], 0, 0, none, .stopped, false, []⟩

/-- SR after any reset (R124). -/
def Sr.initial : Sr := ⟨[], none, none, 0, 65535#16, false, 0, false, [], none, false, ⟨false, 0, 0⟩⟩

/-- SC after POWER_ON (R148, R175). -/
def Sc.initial : Sc :=
  ⟨.none, .idle, 0, .defaults, false, .stopped, false, false, false, none, none, false, false, .stopped, false⟩

/-- CVU after POWER_ON (R161). -/
def Cvu.initial : Cvu := ⟨0, .cleared, 0, 4, false, 0⟩

/-- MGP after POWER_ON (R194), with straps not yet sampled. -/
def Mgp.initial : Mgp := ⟨false, false, ⟨.ok, []⟩, .ok, .cleared, .zero, .powerOn, 0⟩

/-- AU after any reset: nothing latched, every kind masked (R194). -/
def Au.initial : Au := ⟨0, BitVec.allOnes 12⟩

/-- The part right after a POWER_ON reset and its release with the address straps at 0 (R190; log 6): the client port has
issued its 32 credits and the memory port holds 48. -/
def State.reset : State where
  phase := .running
  cp := ⟨[], false, Config.ingressPlaces⟩
  mp := ⟨Config.memoryCredits, [], 0⟩
  gm := .initial
  se := .initial
  st := .initial
  sr := .initial
  sc := .initial
  cvu := .initial
  mgp := .initial
  au := .initial
  out := []
  pending := []

end Sys2Proof.Machine
end

