-- ==== Sys2Proof/Machine/Flags.lean ====
section
/-! DEFINITION. The flags, counters and records through which the units report: alerts (R186, R187), sticky counters (R185) and
the event capture record (R183). -/

namespace Sys2Proof.Machine

open Sys2Proof

/-- One more, staying at the cap once there (00_scope.md, Arithmetic). -/
def satSucc (cap n : Nat) : Nat := min cap (n + 1)

/-- The number of an alert kind (R199). -/
def Alert.index : Alert → Nat
  | .passEnd => 0
  | .eligible => 1
  | .cutoverDone => 2
  | .cutoverAbort => 3
  | .cutoverGiveup => 4
  | .nonconvergent => 5
  | .syncLost => 6
  | .txqHigh => 7
  | .linkLost => 8
  | .fault => 9
  | .peerTakeover => 10
  | .released => 11

/-- The flag of an alert kind in the latch and in the mask (R199). -/
def Alert.bit (a : Alert) : BitVec 12 := 1#12 <<< a.index

/-- Raise an alert: its flag is set whatever the mask (R186). -/
def State.raise (s : State) (a : Alert) : State := s.setAu { s.au with latch := s.au.latch ||| a.bit }

/-- Raise an alert if a condition holds. -/
def State.raiseIf (s : State) (c : Bool) (a : Alert) : State := if c then s.raise a else s

/-- Whether an alert's flag is set. -/
def State.latched (s : State) (a : Alert) : Bool := s.au.latch.getLsbD a.index

/-- The alert line: high while an unmasked alert is latched (R187), low during a reset (R190). -/
def State.alertLine (s : State) : Bool := s.phase == .running && (s.au.latch &&& ~~~s.au.mask) != 0

/-- The value of a counter. -/
def Counters.get (k : Counters) : Counter → Nat
  | .degraded => k.degraded
  | .discarded => k.discarded
  | .protect => k.protect
  | .protocol => k.protocol
  | .poisoned => k.poisoned
  | .needs => k.needs
  | .losses => k.losses
  | .refusedWrites => k.refusedWrites
  | .readyLate => k.readyLate

/-- Raise one counter by 1, saturating at 24 bits (R185). -/
def Counters.bump (k : Counters) : Counter → Counters
  | .degraded => { k with degraded := satSucc Config.max24 k.degraded }
  | .discarded => { k with discarded := satSucc Config.max24 k.discarded }
  | .protect => { k with protect := satSucc Config.max24 k.protect }
  | .protocol => { k with protocol := satSucc Config.max24 k.protocol }
  | .poisoned => { k with poisoned := satSucc Config.max24 k.poisoned }
  | .needs => { k with needs := satSucc Config.max24 k.needs }
  | .losses => { k with losses := satSucc Config.max24 k.losses }
  | .refusedWrites => { k with refusedWrites := satSucc Config.max24 k.refusedWrites }
  | .readyLate => { k with readyLate := satSucc Config.max24 k.readyLate }

/-- Raise a sticky counter (R185). -/
def State.count (s : State) (c : Counter) : State := s.setMgp { s.mgp with counters := s.mgp.counters.bump c }

/-- The pass field of a captured event (R183). -/
def State.eventPass (s : State) : Nat :=
  match s.sc.role with
  | .source => s.se.passNo
  | .target => (s.sr.lastReport.map (·.pass)).getD 0
  | .none => 0

/-- Capture an event: the record is overwritten, OVERRUN is set if it was unread, and UNREAD is set (R183). -/
def State.capture (s : State) (kind : EventKind) (granule : Option Nat) (detail : Detail) : State :=
  s.setMgp { s.mgp with
    event := ⟨kind, granule, detail, s.eventPass, true, s.mgp.event.overrun || s.mgp.event.unread⟩ }

end Sys2Proof.Machine
end

