-- ==== Sys2Proof/Machine/Operands.lean ====
section
/-! DEFINITION. Numbers on the wire (R196) and the parameter layouts of the management commands (11.2, 11.3). -/

namespace Sys2Proof.Machine

open Sys2Proof

/-- The number sent as these bytes, most significant byte first (R196). -/
def fromBytes (bs : List Byte) : Nat := bs.foldl (fun acc b => acc * 256 + b.toNat) 0

/-- The low n bytes of a number, most significant byte first (R196). -/
def toBytes : Nat → Nat → List Byte
  | 0, _ => []
  | n + 1, x => BitVec.ofNat 8 (x / 256 ^ n) :: toBytes n x

/-- The field of n bytes that begins at an offset of a layout. -/
def field (ps : List Byte) (off n : Nat) : Nat := fromBytes ((ps.drop off).take n)

/-- One bit of a flags byte. -/
def flagAt (ps : List Byte) (off bit : Nat) : Bool := (field ps off 1).testBit bit

/-- A bit as a number, for the flag bytes of the records. -/
def bitVal (b : Bool) (place : Nat) : Nat := if b then 2 ^ place else 0

/-- Bring a parameter into its range (R181). -/
def clamp (lo hi n : Nat) : Nat := max lo (min hi n)

/-! ### Fence records (11.3) -/

/-- Whether first and length are in the ranges of R11. -/
def fenceInRange (first length : Nat) : Bool :=
  first < Config.maxGranules && 1 ≤ length && length ≤ Config.maxGranules

/-- The fence record at an offset (11.3): first, length, and invert in bit 0 of the flags. -/
def fenceAt (ps : List Byte) (off : Nat) : Fence := ⟨field ps off 3, field ps (off + 3) 3, flagAt ps (off + 6) 0⟩

/-! ### Extent records (11.3) -/

/-- The level slot at an offset: the count field is bits 11–0 of its first two bytes, where 0 means 4,096 (R58). -/
def levelAt (ps : List Byte) (off : Nat) : Level :=
  let c := field ps off 2 % 4096
  ⟨if c = 0 then 4096 else c, field ps (off + 2) 3⟩

/-- The level count field of an extent record. -/
def levelCountAt (ps : List Byte) (off : Nat) : Nat := field ps (off + 3) 1

/-- The extent record at an offset; slots beyond the level count are ignored. -/
def extentAt (ps : List Byte) (off : Nat) : Extent :=
  ⟨field ps off 3, (List.range (levelCountAt ps off)).map fun i => levelAt ps (off + 4 + 5 * i)⟩

/-- Whether first and the strides of an extent are in range (R58). -/
def extentInRange (e : Extent) : Bool :=
  e.first < Config.maxGranules && e.levels.all fun l => l.stride < Config.maxGranules

/-! ### The session parameter block (R181, 11.3) -/

/-- The role a code names. -/
def roleOf (n : Nat) : Option Role :=
  if n = 0 then some .none else if n = 1 then some .source else if n = 2 then some .target else none

/-- A two-valued parameter: 0 or 1. -/
def choiceOf (n : Nat) : Option Bool :=
  if n = 0 then some false else if n = 1 then some true else none

/-- The span a field gives, in its range 1 … 1,048,576. -/
def spanOf (n : Nat) : Option Nat := if 1 ≤ n ∧ n ≤ Config.maxGranules then some n else none

/-- The session parameters of a block: the role, the span, the mode and the policy are judged, the others brought into
range (R181). -/
def paramsOf (ps : List Byte) : Option (Role × Params) :=
  match roleOf (field ps 0 1), spanOf (field ps 1 3), choiceOf (field ps 4 1), choiceOf (field ps 5 1) with
  | some role, some span, some manual, some stall =>
    some (role,
      { span := span
        manual := manual
        stall := stall
        dMax := field ps 6 2
        hLimit := clamp 50 20000 (field ps 8 2)
        qAllow := field ps 10 2
        ki := clamp 10 1000 (field ps 12 2)
        sl := clamp 2 15 (field ps 14 1)
        share := clamp 1 Config.maxShare (field ps 15 1) })
  | _, _, _, _ => none

/-- The lock mode LOCK-FENCES names (R17, R199). -/
def lockModeOf (n : Nat) : Option LockMode :=
  if n = 1 then some .strap else if n = 2 then some .session else none

/-- The twelve alert flags of a two-byte field; bits 12–15 name no kind and are ignored (R187, R199). -/
def alertFlags (ps : List Byte) : BitVec 12 := BitVec.ofNat 12 (field ps 0 2)

end Sys2Proof.Machine
end

