-- ==== Sys2Proof/Machine/Ops.lean ====
section
/-! DEFINITION. The operations that every unit shares: the event frame of a step, the frame of a management command (R177, R179,
R180, R189), timers, outputs, and reading the map and the fences. -/

namespace Sys2Proof.Machine

open Sys2Proof

/-- The answer of a step. -/
abbrev Answered := Host.Outcome State Fault Refusal

/-! ### Outputs and timers -/

/-- Put one thing out. -/
def State.emit (s : State) (o : Output) : State := s.setOut (s.out ++ [o])

/-- Stop a timer; it keeps its count (log 10). -/
def Timer.stop (t : Timer) : Timer := { t with running := false }

/-- Start or restart a timer from 0. -/
def Timer.started : Timer := ⟨true, 0⟩

/-- Restart a timer from 0 if it is running. -/
def Timer.restartIfRunning (t : Timer) : Timer := if t.running then .started else t

/-! ### The frame of a step -/

/-- A step of the part: in a reset nothing is taken (R190, R191; log 7). What the last step put out is cleared (log 11). -/
def event (s : State) (f : State → State) : Answered :=
  .next (if s.phase = .running then f (s.setOut []) else s.setOut [])

/-- What the checks of a command come to: accepted, with the state it leaves and the reply data, or refused. -/
inductive CommandResult where
  | accept (s : State) (data : List Byte)
  | refuse (code : ResultCode)

/-- The end of a command's write transaction: the reply and the last result code are written (R177, R179), a guarded command
clears the arm latch (R180), and the reset-enable latch is left as given (R189). -/
def State.finish (s : State) (guarded enable : Bool) (code : ResultCode) (data : List Byte) : State :=
  s.setMgp { s.mgp with
    armLatch := s.mgp.armLatch && !guarded
    resetEnable := enable
    reply := ⟨code, data⟩
    lastResult := code }

/-- The checks of R179 in their order: the arm latch of a guarded command, the parameter count, the command's own. -/
def checked (guarded : Bool) (n : Nat) (ps : List Byte) (body : State → CommandResult) (s : State) : CommandResult :=
  if guarded = true ∧ s.mgp.armLatch = false then .refuse .unarmed
  else if ps.length = n then body s
  else .refuse .param

/-- A management command (R177, R179). `enable` is what an accepted command leaves in the reset-enable latch; a refused one
clears it (R189; log 20). -/
def command (guarded : Bool) (n : Nat) (enable : Bool) (ps : List Byte) (body : State → CommandResult) (s : State) : Answered :=
  event s fun s =>
    match checked guarded n ps body s with
    | .accept s' data => s'.finish guarded enable .ok data
    | .refuse c => s.finish guarded false c []

/-- Whether the part acknowledges a 7-bit I2C address (R178): its own, outside a reset. -/
def State.acknowledges (s : State) (addr : Nat) : Bool := s.phase == .running && addr == i2cAddress s.mgp.straps

/-! ### Roles and states -/

/-- The session state changes. -/
def State.setState (s : State) (x : SessionState) : State := s.setSc { s.sc with state := x }

/-- A SOURCE in this state. -/
def State.sourceIn (s : State) (x : SessionState) : Bool := s.sc.role == .source && s.sc.state == x

/-- A TARGET in this state. -/
def State.targetIn (s : State) (x : SessionState) : Bool := s.sc.role == .target && s.sc.state == x

/-- The sending states of a SOURCE (R122); RELEASE_PENDING leaves the session state as it was. -/
def State.sending (s : State) : Bool :=
  s.sc.role == .source &&
    (s.sc.state == .sweep || s.sc.state == .rinse || s.sc.state == .cutover || s.sc.state == .shadow)

/-- The states of a SOURCE in which ST sends from the TXQ (R86). -/
def State.transmitting (s : State) : Bool := s.sourceIn .handshake || s.sending

/-- The states of a TARGET that takes the copy stream. -/
def State.receiving (s : State) : Bool := s.targetIn .filling || s.targetIn .shadow

/-- The states of a TARGET in which CP judges writes (R28). -/
def State.fencing (s : State) : Bool := s.targetIn .listen || s.receiving || s.targetIn .fault

/-- The states of a SOURCE in which SE may work (4.7), until DETACH is accepted (R80). -/
def State.sweeping (s : State) : Bool :=
  (s.sourceIn .sweep || s.sourceIn .rinse || s.sourceIn .cutover) && !s.sc.releasePending

/-- SE stands between a pass end and the next pass start: WAITING or DEFERRED (R70, R150). -/
def Se.betweenPasses (e : Se) : Bool := e.waiting || e.deferred

/-! ### Granules, fences and the map -/

/-- The granule of a line address (R1). -/
def granuleOf (a : Nat) : Nat := a / Config.linesPerGranule

/-- Whether a granule lies in the run of a fence (R11). -/
def Fence.inRun (f : Fence) (g : Nat) : Bool := f.first ≤ g && g < f.first + f.length

/-- Whether a fence record covers a granule, against a span (R11). -/
def Fence.covers (span : Nat) (f : Fence) (g : Nat) : Bool := g < span && (f.inRun g != f.invert)

/-- Whether a fence table covers a granule, against a span (R11). -/
def fencesCover (span : Nat) (slots : List (Option Fence)) (g : Nat) : Bool :=
  slots.any fun slot => match slot with
    | some f => f.covers span g
    | none => false

/-- Coverage by the local and by the peer fence table, against the span of the session parameters (R11). -/
def State.localCovers (s : State) (g : Nat) : Bool := fencesCover s.sc.params.span s.gm.localFences g
def State.peerCovers (s : State) (g : Nat) : Bool := fencesCover s.sc.params.span s.gm.peerFences g

/-- The map's entry for a granule: none outside the image, or with no map in effect (R2, R4). -/
def State.entry (s : State) (g : Nat) : Option GranuleState :=
  match s.gm.map with
  | some m => m[g]?
  | none => none

/-- Whether a granule is the open granule (R5). -/
def State.isOpen (s : State) (g : Nat) : Bool := s.se.opened.any fun r => r.granule == g

/-- D, the granules still to be copied (R9). -/
def State.d (s : State) : Nat := s.gm.census.uncopied + s.gm.census.dirty

/-! ### The request table -/

/-- The next step drops what SE or SR would do with the response to an own request (R41, R81, R115). -/
def Owner.dropped : Owner → Owner
  | .client => .client
  | .sweep _ => .sweep none
  | .apply g _ => .apply g false

/-- Every own request outstanding will have its data or status dropped; its record, credit and tag stand (R34; log 13). -/
def State.dropOwn (s : State) : State :=
  s.setMp { s.mp with table := s.mp.table.map fun r => { r with owner := r.owner.dropped } }

/-- The record of a tag (R30). -/
def State.recordOf (s : State) (tag : Nat) : Option MemRecord := s.mp.table.find? fun r => r.tag == tag

/-- A record is removed and its credit returned (R33, R34). -/
def State.takeRecord (s : State) (tag : Nat) : State :=
  s.setMp { s.mp with credits := s.mp.credits + 1, table := s.mp.table.filter fun r => r.tag != tag }

/-- The lowest own tag not in use (R30). -/
def State.freeOwnTag (s : State) : Option Nat :=
  ((List.range Config.ownTags).map (Config.firstOwnTag + ·)).find? fun t => (s.recordOf t).isNone

end Sys2Proof.Machine
end

