-- ==== Sys2Proof/Machine/Granules.lean ====
section
/-! DEFINITION. GM: the map, its transitions with the census, and the peer fences (chapter 1). -/

namespace Sys2Proof.Machine

open Sys2Proof

/-! ### The census (R9) -/

/-- One granule fewer in a state. -/
def Census.lower (c : Census) : GranuleState → Census
  | .uncopied => { c with uncopied := c.uncopied - 1 }
  | .copied => { c with copied := c.copied - 1 }
  | .dirty => { c with dirty := c.dirty - 1 }
  | .excluded => { c with excluded := c.excluded - 1 }

/-- One granule more in a state. -/
def Census.lift (c : Census) : GranuleState → Census
  | .uncopied => { c with uncopied := c.uncopied + 1 }
  | .copied => { c with copied := c.copied + 1 }
  | .dirty => { c with dirty := c.dirty + 1 }
  | .excluded => { c with excluded := c.excluded + 1 }

/-- The counts of a map (R9). -/
def censusOf (m : List GranuleState) : Census :=
  ⟨m.count .uncopied, m.count .copied, m.count .dirty, m.count .excluded⟩

/-! ### Transitions -/

/-- A granule changes state, and the census with it (R9). -/
def Gm.move (g : Gm) (i : Nat) (a b : GranuleState) : Gm :=
  { g with map := g.map.map (·.set i b), census := (g.census.lower a).lift b }

/-- INIT (R3): a new map from the local fences, empty peer fences, the census set directly, the pass counts 0. -/
def Gm.init (g : Gm) (span : Nat) : Gm :=
  let fenced := (List.range span).countP (fencesCover span g.localFences)
  { g with
    map := some ((List.range span).map fun i => if fencesCover span g.localFences i then .excluded else .uncopied)
    census := ⟨span - fenced, 0, 0, fenced⟩
    nc := 0
    nd := 0
    ndNext := 0
    peerFences := emptyFences }

/-- MERGE (R14): every granule the peer fences cover becomes EXCLUDED; the census follows the map (log 34). -/
def Gm.merge (g : Gm) (span : Nat) : Gm :=
  match g.map with
  | none => g
  | some m =>
    let m' := m.mapIdx fun i e => if fencesCover span g.peerFences i then .excluded else e
    { g with map := some m', census := censusOf m' }

/-- The map is removed (R4). -/
def Gm.removeMap (g : Gm) : Gm := { g with map := none, census := .zero }

/-- CLOSE of the open granule (R6): clean, the entry becomes COPIED and N_c rises; stale, an UNCOPIED entry becomes DIRTY. -/
def Gm.close (g : Gm) (i : Nat) (entry : Option GranuleState) (stale : Bool) : Gm :=
  match entry, stale with
  | some .uncopied, false => { g.move i .uncopied .copied with nc := satSucc Config.max24 g.nc }
  | some .dirty, false => { g.move i .dirty .copied with nc := satSucc Config.max24 g.nc }
  | some .uncopied, true => g.move i .uncopied .dirty
  | _, _ => g

/-- COPIED to DIRTY, counted in N_d (R7, R10): in the current pass's count, or between passes toward the next pass (R150). -/
def Gm.dirtied (g : Gm) (i : Nat) (between : Bool) : Gm :=
  if between then { g.move i .copied .dirty with ndNext := satSucc Config.max24 g.ndNext }
  else { g.move i .copied .dirty with nd := satSucc Config.max24 g.nd }

/-- N_d of the pass that runs: the transitions since its start, and those that the wait before it counted toward it (R10, R150;
log 38). -/
def Gm.passNd (g : Gm) : Nat := min Config.max24 (g.nd + g.ndNext)

/-- The outcomes of MARK-DIRTY (R7). -/
inductive MarkOutcome where
  | outside | excluded | stale | dirtied | unchanged
  deriving DecidableEq, Repr

/-- What GM answers to a MARK-DIRTY (R7). -/
def State.markOutcome (s : State) (g : Nat) : MarkOutcome :=
  match s.entry g with
  | none => .outside
  | some .excluded => .excluded
  | some e => if s.isOpen g then .stale else if e = .copied then .dirtied else .unchanged

/-! ### Peer fences (R13) -/

/-- A record of a REPLY, judged: none if its first or length lies outside the ranges of R11. -/
def WireFence.judged (f : WireFence) : Option Fence :=
  if fenceInRange f.first.toNat f.length.toNat then some ⟨f.first.toNat, f.length.toNat, f.invert⟩ else none

/-- The peer fence table of a REPLY's records: slots in frame order, the rest empty (R13). -/
def peerTable (fs : List WireFence) : List (Option Fence) :=
  (fs.map WireFence.judged ++ emptyFences).take Config.fenceSlots

/-- PROTOCOL is counted once for each record that is not loaded (R13). -/
def State.countBadFences (s : State) : List WireFence → State
  | [] => s
  | f :: fs => (if f.judged.isNone then s.count .protocol else s).countBadFences fs

/-- The records of an accepting REPLY are loaded, then merged into the map (R13, R14). -/
def State.loadPeer (s : State) (fs : List WireFence) : State :=
  let s := s.setGm { s.gm with peerFences := peerTable fs }
  let s := s.countBadFences fs
  s.setGm (s.gm.merge s.sc.params.span)

/-- The occupied local fence slots in slot order, as a REPLY carries them (R15). -/
def replyFences (slots : List (Option Fence)) : List WireFence :=
  slots.filterMap fun slot => slot.map fun f => ⟨BitVec.ofNat 24 f.first, BitVec.ofNat 24 f.length, f.invert⟩

end Sys2Proof.Machine
end

