-- ==== Sys2Proof/Machine/Convergence.lean ====
section
/-! DEFINITION. CVU: the rates, the predicted hold, eligibility, the streak and the share (chapter 8). -/

namespace Sys2Proof.Machine

open Sys2Proof

/-- A rate of a pass: events per 1,024 µs, floored, saturating at 65,535 (R151, R152). -/
def rate (n t : Nat) : Nat := min Config.max16 (n * 1024 / t)

/-- The copy rate of a pass; a pass that closed nothing clean keeps the held one (R151). -/
def copyRate (held nc t : Nat) : Nat := if nc = 0 then held else rate nc t

/-- The pass time: the timer's reading, or 1 if it reads 0 (R150). -/
def passTime (timer : Nat) : Nat := if timer = 0 then 1 else timer

/-- The predicted hold H (R153). -/
def predictedHold (d c qAllow : Nat) : Nat :=
  if d = 0 then qAllow
  else if c = 0 then Config.max24
  else min Config.max24 ((d * 1024 + (c - 1)) / c + qAllow)

/-- The eligibility test on some D (R154). -/
def eligibleFor (p : Params) (c d : Nat) : Bool := d ≤ p.dMax && predictedHold d c p.qAllow ≤ p.hLimit

/-- Whether a cutover is eligible now, with the held C and the census D (R154). -/
def State.eligible (s : State) : Bool := eligibleFor s.sc.params s.cvu.heldC s.d

/-- The eligibility test at a RESUME or a CUTOVER command: D, H and the outcome are rewritten in the pass record with the test
point (R158, R159), and ELIGIBLE is raised if it is eligible (R154). -/
def State.cutoverTest (s : State) (point : TestPoint) : State :=
  let s' := s.setCvu { s.cvu with
    record := { s.cvu.record with
      d := s.d
      h := predictedHold s.d s.cvu.heldC s.sc.params.qAllow
      eligible := s.eligible
      point := point } }
  s'.raiseIf s.eligible .eligible

/-- CVU takes a pass end (R150 to R155): the record, the held C, the streak and the share in use, with their alerts. What a wait counted
toward the pass is used up (R150). -/
def State.takePassEnd (s : State) : State :=
  let t := passTime s.se.passTimer
  let c := copyRate s.cvu.heldC s.gm.nc t
  let r := rate s.gm.passNd t
  let ok := eligibleFor s.sc.params c s.d
  let conv := decide (r < c)
  let trigger := !conv && s.cvu.streak + 1 ≥ Config.streakLimit
  let streak := if conv || trigger then 0 else s.cvu.streak + 1
  let share := if trigger && s.cvu.share < Config.maxShare then s.cvu.share + 1 else s.cvu.share
  let s' := (s.setGm { s.gm with ndNext := 0 }).setCvu { s.cvu with
    heldC := c
    streak := streak
    share := share
    record := {
      valid := true
      passNo := s.se.passNo
      t := t
      nc := s.gm.nc
      nd := s.gm.passNd
      d := s.d
      c := c
      cHeld := s.gm.nc == 0
      r := r
      h := predictedHold s.d c s.sc.params.qAllow
      eligible := ok
      converging := conv
      streak := streak
      point := if s.se.paused then .deferred else .passEnd } }
  (s'.raiseIf ok .eligible).raiseIf trigger .nonconvergent

end Sys2Proof.Machine
end

