-- ==== Sys2Proof/Machine/Cursor.lean ====
section
/-! DEFINITION. The plan cursor: positions of an extent, stepping and skipping (4.1, 4.2). -/

namespace Sys2Proof.Machine

open Sys2Proof

/-- The exact sum of R60 before its reduction: first plus each level's index times its stride, the index being the count less
the remaining count (R61). -/
def positionSum (first : Nat) : List Level → List Nat → Nat
  | l :: ls, r :: rs => positionSum (first + (l.count - r) * l.stride) ls rs
  | _, _ => first

/-- The granule of the position with these remaining counts (R60). -/
def positionOf (span : Nat) (e : Extent) (remaining : List Nat) : Nat := positionSum e.first e.levels remaining % span

/-- Step the levels, outermost first (R61): the innermost remaining count is lowered; an exhausted level passes the step
outward, and the levels inside are entered again. None when the outermost level is exhausted. -/
def stepLevels : List Level → List Nat → Option (List Nat)
  | _ :: ls, r :: rs =>
    match stepLevels ls rs with
    | some rs' => some (r :: rs')
    | none => if 1 < r then some ((r - 1) :: ls.map (·.count)) else none
  | _, _ => none

/-- The same step with the innermost level taken as exhausted (R63, SKIP LEVEL). -/
def skipInnermost : List Level → List Nat → Option (List Nat)
  | _ :: l' :: ls, r :: rs =>
    match skipInnermost (l' :: ls) rs with
    | some rs' => some (r :: rs')
    | none => if 1 < r then some ((r - 1) :: (l' :: ls).map (·.count)) else none
  | _, _ => none

/-- Enter an extent: every index is 0 (R61). Past the last extent, pass-0-done is set. -/
def enterExtent (plan : List Extent) (span i : Nat) : Cursor :=
  match plan[i]? with
  | some e => ⟨i, e.levels.map (·.count), some (e.first % span), false⟩
  | none => ⟨i, [], none, true⟩

/-- Stand at the given remaining counts of the current extent, or enter the next extent (R61). -/
def Cursor.moveTo (c : Cursor) (plan : List Extent) (span : Nat) : Option (List Nat) → Cursor
  | some rem =>
    { c with remaining := rem, next := (plan[c.extent]?).map fun e => positionOf span e rem }
  | none => enterExtent plan span (c.extent + 1)

/-- The levels of the cursor's current extent. -/
def Cursor.levels (c : Cursor) (plan : List Extent) : List Level := ((plan[c.extent]?).map (·.levels)).getD []

/-- The step after a visit (R61). -/
def Cursor.step (c : Cursor) (plan : List Extent) (span : Nat) : Cursor :=
  c.moveTo plan span (stepLevels (c.levels plan) c.remaining)

/-- SKIP LEVEL (R63). -/
def Cursor.skipLevel (c : Cursor) (plan : List Extent) (span : Nat) : Cursor :=
  if c.done then c else c.moveTo plan span (skipInnermost (c.levels plan) c.remaining)

/-- SKIP EXTENT (R63). -/
def Cursor.skipExtent (c : Cursor) (plan : List Extent) (span : Nat) : Cursor :=
  if c.done then c else c.moveTo plan span none

end Sys2Proof.Machine
end

