-- ==== Sys2Proof/Machine/Frames.lean ====
section
/-! DEFINITION. The frames of the mate link as bytes: the CRC-16, the layouts and the form check (R197, R198). -/

namespace Sys2Proof.Machine

open Sys2Proof

/-! ### The CRC (R197) -/

/-- One shift of the CRC register, polynomial x^16 + x^12 + x^5 + 1. -/
def crcShift (r : BitVec 16) : BitVec 16 := if r.msb then (r <<< 1) ^^^ 0x1021#16 else r <<< 1

/-- One byte into the CRC register, most significant bit first. -/
def crcByte (r : BitVec 16) (b : Byte) : BitVec 16 :=
  Nat.iterate crcShift 8 (r ^^^ (b.setWidth 16 <<< 8))

/-- The CRC of some bytes; the register starts at all ones (R197). -/
def crc16 (bs : List Byte) : BitVec 16 := bs.foldl crcByte 0xFFFF#16

/-- The bytes of a frame with its CRC behind them, most significant byte first. -/
def withCrc (body : List Byte) : List Byte := body ++ toBytes 2 (crc16 body).toNat

/-- The bytes of a frame before its CRC. -/
def frameBody (bs : List Byte) : List Byte := bs.take (bs.length - 2)

/-- Whether the last two bytes are the CRC of those before them (R104); fewer than two bytes cannot check (log 28). -/
def crcChecks (bs : List Byte) : Bool :=
  2 ≤ bs.length && bs.drop (bs.length - 2) == toBytes 2 (crc16 (frameBody bs)).toNat

/-! ### Layouts (R197, 11.3) -/

/-- The kind byte of a frame (R197). -/
def Frame.kindByte : Frame → Byte
  | .hello .. => 0x01#8
  | .opening .. => 0x02#8
  | .line .. => 0x03#8
  | .close .. => 0x04#8
  | .mirror .. => 0x05#8
  | .mark .. => 0x06#8
  | .keep => 0x07#8
  | .reply .. => 0x11#8
  | .credit .. => 0x12#8
  | .need .. => 0x13#8
  | .loss .. => 0x14#8
  | .ready .. => 0x15#8
  | .taken .. => 0x16#8

/-- The kind bytes of the table (R197). -/
def frameKinds : List Byte :=
  [0x01#8, 0x02#8, 0x03#8, 0x04#8, 0x05#8, 0x06#8, 0x07#8, 0x11#8, 0x12#8, 0x13#8, 0x14#8, 0x15#8, 0x16#8]

/-- The code of a mark kind (R197). -/
def MarkKind.code : MarkKind → Byte
  | .passEnd .. => 1#8
  | .cutoverBegin _ => 2#8
  | .cutoverEnd => 3#8
  | .cutoverAbort _ => 4#8
  | .syncLost => 5#8
  | .release => 6#8

/-- The five value bytes of a mark (R197). -/
def MarkKind.value : MarkKind → List Byte
  | .passEnd p d => toBytes 2 p.toNat ++ toBytes 3 d.toNat
  | .cutoverBegin a => [a, 0#8, 0#8, 0#8, 0#8]
  | .cutoverAbort a => [a, 0#8, 0#8, 0#8, 0#8]
  | .cutoverEnd | .syncLost | .release => [0#8, 0#8, 0#8, 0#8, 0#8]

/-- The mark of a code and its five value bytes; bytes a kind does not use are ignored (R196). -/
def markOf (code : Byte) (v : List Byte) : Option MarkKind :=
  if code = 1#8 then some (.passEnd (BitVec.ofNat 16 (field v 0 2)) (BitVec.ofNat 24 (field v 2 3)))
  else if code = 2#8 then some (.cutoverBegin (BitVec.ofNat 8 (field v 0 1)))
  else if code = 3#8 then some .cutoverEnd
  else if code = 4#8 then some (.cutoverAbort (BitVec.ofNat 8 (field v 0 1)))
  else if code = 5#8 then some .syncLost
  else if code = 6#8 then some .release
  else none

/-- The code of a REPLY answer (R197). -/
def ReplyAnswer.code : ReplyAnswer → Byte
  | .accept => 1#8
  | .refuseSpan => 2#8
  | .refuseState => 3#8

/-- The answer of a code. -/
def answerOf (b : Byte) : Option ReplyAnswer :=
  if b = 1#8 then some .accept else if b = 2#8 then some .refuseSpan else if b = 3#8 then some .refuseState else none

/-- A fence record on the wire, EMPTY clear (11.3). -/
def WireFence.bytes (f : WireFence) : List Byte :=
  toBytes 3 f.first.toNat ++ toBytes 3 f.length.toNat ++ [if f.invert then 1#8 else 0#8]

/-- The fence record at an offset, read without EMPTY (11.3). -/
def wireFenceAt (ps : List Byte) (off : Nat) : WireFence :=
  ⟨BitVec.ofNat 24 (field ps off 3), BitVec.ofNat 24 (field ps (off + 3) 3), flagAt ps (off + 6) 0⟩

/-- The mask field: byte k holds the flags of line bytes 8k … 8k+7, bit j for line byte 8k+j (R197). -/
def maskBytes (m : ByteMask) : List Byte := (List.range 8).map fun k => m.extractLsb' (8 * k) 8

/-- The mask of eight mask bytes. -/
def maskOf (bs : List Byte) : ByteMask :=
  bs.foldr (fun b acc => (acc <<< 8) ||| b.setWidth 64) 0#64

/-- The line word of a LINE: bit 15 the poison flag, bits 9–0 the line index (R197). -/
def lineWord (poison : Bool) (index : BitVec 10) : Nat := bitVal poison 15 + index.toNat

/-- A frame's bytes before the CRC: the kind byte, then the fields in the order of the table (R197). -/
def Frame.body : Frame → List Byte
  | .hello s sp f => 0x01#8 :: s :: (toBytes 3 sp.toNat ++ toBytes 2 f.toNat)
  | .opening g o => 0x02#8 :: (toBytes 3 g.toNat ++ [o])
  | .line o p i d => 0x03#8 :: o :: (toBytes 2 (lineWord p i) ++ d)
  | .close g o => 0x04#8 :: (toBytes 3 g.toNat ++ [o])
  | .mirror q a m d => 0x05#8 :: (toBytes 2 q.toNat ++ toBytes 4 a.toNat ++ maskBytes m ++ d)
  | .mark s k => 0x06#8 :: s :: k.code :: k.value
  | .keep => [0x07#8]
  | .reply s a fs => 0x11#8 :: s :: a.code :: BitVec.ofNat 8 fs.length :: (fs.map WireFence.bytes).flatten
  | .credit n k => 0x12#8 :: n :: toBytes 2 k.toNat
  | .need g => 0x13#8 :: toBytes 3 g.toNat
  | .loss e d => 0x14#8 :: (toBytes 2 e.toNat ++ toBytes 2 d.toNat)
  | .ready s ok => [0x15#8, s, if ok then 1#8 else 2#8]
  | .taken s => [0x16#8, s]

/-- A frame as it goes out (R197). -/
def Frame.bytes (f : Frame) : List Byte := withCrc f.body

/-- The fields of a frame of each kind after the kind byte, none if the length or a code is wrong (R198). -/
def fieldsOf (k : Byte) (ps : List Byte) : Option Frame :=
  if k = 0x01#8 then
    if ps.length = 6 then
      some (.hello (BitVec.ofNat 8 (field ps 0 1)) (BitVec.ofNat 24 (field ps 1 3)) (BitVec.ofNat 16 (field ps 4 2)))
    else none
  else if k = 0x02#8 then
    if ps.length = 4 then some (.opening (BitVec.ofNat 24 (field ps 0 3)) (BitVec.ofNat 8 (field ps 3 1))) else none
  else if k = 0x03#8 then
    if ps.length = 67 then
      some (.line (BitVec.ofNat 8 (field ps 0 1)) ((field ps 1 2).testBit 15) (BitVec.ofNat 10 (field ps 1 2)) (ps.drop 3))
    else none
  else if k = 0x04#8 then
    if ps.length = 4 then some (.close (BitVec.ofNat 24 (field ps 0 3)) (BitVec.ofNat 8 (field ps 3 1))) else none
  else if k = 0x05#8 then
    if ps.length = 78 then
      some (.mirror (BitVec.ofNat 16 (field ps 0 2)) (BitVec.ofNat 32 (field ps 2 4)) (maskOf ((ps.drop 6).take 8))
        (ps.drop 14))
    else none
  else if k = 0x06#8 then
    if ps.length = 7 then
      (markOf (BitVec.ofNat 8 (field ps 1 1)) (ps.drop 2)).map (.mark (BitVec.ofNat 8 (field ps 0 1)))
    else none
  else if k = 0x07#8 then
    if ps.length = 0 then some .keep else none
  else if k = 0x11#8 then
    if 3 ≤ ps.length ∧ field ps 2 1 ≤ 8 ∧ ps.length = 3 + 7 * field ps 2 1 then
      (answerOf (BitVec.ofNat 8 (field ps 1 1))).map fun a =>
        .reply (BitVec.ofNat 8 (field ps 0 1)) a ((List.range (field ps 2 1)).map fun i => wireFenceAt ps (3 + 7 * i))
    else none
  else if k = 0x12#8 then
    if ps.length = 3 then some (.credit (BitVec.ofNat 8 (field ps 0 1)) (BitVec.ofNat 16 (field ps 1 2))) else none
  else if k = 0x13#8 then
    if ps.length = 3 then some (.need (BitVec.ofNat 24 (field ps 0 3))) else none
  else if k = 0x14#8 then
    if ps.length = 4 then some (.loss (BitVec.ofNat 16 (field ps 0 2)) (BitVec.ofNat 16 (field ps 2 2))) else none
  else if k = 0x15#8 then
    if ps.length = 2 then
      if field ps 1 1 = 1 then some (.ready (BitVec.ofNat 8 (field ps 0 1)) true)
      else if field ps 1 1 = 2 then some (.ready (BitVec.ofNat 8 (field ps 0 1)) false)
      else none
    else none
  else if k = 0x16#8 then
    if ps.length = 1 then some (.taken (BitVec.ofNat 8 (field ps 0 1))) else none
  else none

/-- The form check of R198 on a frame's bytes before the CRC: the frame, or none if it is malformed. -/
def parseFrame : List Byte → Option Frame
  | [] => none
  | k :: ps => fieldsOf k ps

/-- The detail of a malformed frame's event: the frame kind for a known kind byte, absent otherwise (R198). -/
def malformedDetail : List Byte → Detail
  | [] => .absent
  | k :: _ => if frameKinds.contains k then .frameKind k else .absent

/-- A frame's fields fit the wire: whole lines of data, and at most eight records in a REPLY (R197). -/
def Frame.wf : Frame → Bool
  | .line _ _ _ d => d.length == 64
  | .mirror _ _ _ d => d.length == 64
  | .reply _ _ fs => fs.length ≤ 8
  | .hello .. | .opening .. | .close .. | .mark .. | .keep | .credit .. | .need .. | .loss .. | .ready .. | .taken .. => true

end Sys2Proof.Machine
end

