-- ==== Sys2Proof/Machine/Sessions.lean ====
section
/-! DEFINITION. SC: how a session ends in each role (7.4 to 7.10), and how a TARGET moves between FILLING and SHADOW (7.8). -/

namespace Sys2Proof.Machine

open Sys2Proof

/-! ### The SOURCE -/

/-- SE stops: the open record is dropped without a request to GM and the four flags are cleared (R80, R81). -/
def Se.stopped (e : Se) : Se :=
  { e with opened := none, running := false, waiting := false, paused := false, deferred := false }

/-- ST empties the TXQ, the pending mark list and the MRL and stops the keepalive timer (R101). -/
def St.emptied (t : St) : St :=
  { t with txq := [], pendingMarks := [], mrl := [], keepalive := t.keepalive.stop, keepDue := false }

/-- The session controller of a part that leaves its session (R135, R146): both pending flags are cleared, the timers stop and
no READY is awaited. -/
def Sc.ended (c : Sc) (x : SessionState) : Sc :=
  { c with
    state := x
    releasePending := false
    takeoverPending := false
    takenWaiting := false
    handshake := c.handshake.stop
    holdTimer := c.holdTimer.stop
    awaitingReady := false }

/-- A SOURCE leaves its session state for IDLE or FAULT (R135, R146): hold is released, ST empties its queues and stops,
SE stops, the silent timer stops, and the sweep reads outstanding will have their data dropped (R81). -/
def State.endSource (s : State) (x : SessionState) : State :=
  let s := s.dropOwn
  let s := s.setCp { s.cp with hold := false }
  let s := s.setSe s.se.stopped
  let s := s.setSt s.st.emptied
  let s := s.setSr { s.sr with silent := { s.sr.silent with running := false } }
  s.setSc (s.sc.ended x)

/-- The flush at link loss, ABORT and TAKEN clears the newest mirror sent as well (R101). -/
def State.flushSource (s : State) (x : SessionState) : State :=
  let s := s.endSource x
  s.setSt { s.st with newestSent := none }

/-- The entry into FAULT with its reason (R137). -/
def State.setFault (s : State) (r : FaultReason) : State := s.setSc { s.sc with faultReason := some r }

/-- Link loss on a SOURCE (R135). -/
def State.sourceLinkLoss (s : State) (r : FaultReason) : State :=
  (((s.flushSource .fault).setFault r).raise .linkLost).raise .fault

/-- The handshake expires (R129): FAULT without LINK_LOST, ST flushing as at link loss. -/
def State.handshakeLoss (s : State) : State :=
  let s := ((s.flushSource .fault).setFault .handshakeTimeout).raise .fault
  s.setSc { s.sc with handshake := ⟨false, Config.handshakeLimit⟩ }

/-- The detach completes (R140). -/
def State.detachComplete (s : State) : State := s.endSource .idle

/-! ### The TARGET -/

/-- SR at the TARGET's entry into IDLE (R123): E, the last mirror granted, the clean flag and the last pass report stay. -/
def Sr.ended (r : Sr) : Sr :=
  { r with
    buffer := []
    head := none
    latch := none
    freed := 0
    creditDue := false
    failedApply := []
    silent := { r.silent with running := false } }

/-- A TARGET enters IDLE (R146): fencing ends with the state, SR and the return list are emptied, the timers stop, and the
apply writes outstanding will have their status dropped (R115). -/
def State.endTarget (s : State) : State :=
  let s := s.dropOwn
  let s := s.setSr s.sr.ended
  let s := s.setSt { s.st with returnList := [], keepalive := s.st.keepalive.stop }
  s.setSc (s.sc.ended .idle)

/-- The frame at the head at the entry into FAULT (R123): its answers will not be sent; a LINE or MIRROR accepted for apply
stays on offer, any other frame is consumed. -/
def Sr.dropAnswers (r : Sr) : Sr :=
  match r.head with
  | none => r
  | some h => match h.apply with
    | some a => { r with head := some ⟨[], some a⟩ }
    | none => { r with buffer := r.buffer.tail, head := none }

/-- A TARGET enters FAULT (R136, R141): the return list is emptied, the keepalive and silent timers stop, a due CREDIT is
withdrawn (R123). The receive buffer is kept. -/
def State.targetFault (s : State) (r : FaultReason) : State :=
  let s := s.setSt { s.st with returnList := [], keepalive := s.st.keepalive.stop }
  let s := s.setSr { s.sr.dropAnswers with creditDue := false, silent := { s.sr.silent with running := false } }
  let s := s.setSc { s.sc with state := .fault, faultReason := some r }
  s.raise .fault

/-- The completion of a takeover (R144). -/
def State.takeoverComplete (s : State) : State :=
  let s := s.setSc { s.sc with synced := s.sc.synced || !s.sc.unsynced }
  s.endTarget

/-- A TARGET returns from SHADOW to FILLING (R142); with TAKEOVER_PENDING it sets UNSYNCED_TAKEOVER (R143). -/
def State.returnToFilling (s : State) : State :=
  if s.targetIn .shadow then
    s.setSc { s.sc with state := .filling, unsynced := s.sc.unsynced || s.sc.takeoverPending }
  else s

/-- The clean flag is cleared on a TARGET in FILLING or SHADOW (R119); in SHADOW that returns it to FILLING (R121). -/
def State.clearClean (s : State) : State :=
  if s.receiving then (s.setSr { s.sr with clean := false }).returnToFilling else s

/-- MARK(RELEASE) with the right session number takes effect (R141). -/
def State.releaseTaken (s : State) : State :=
  if s.targetIn .shadow then
    let s := s.setSc { s.sc with synced := s.sc.synced || !s.sc.unsynced }
    (s.raise .released).endTarget
  else if s.sc.takeoverPending then
    -- R141: a takeover pending in FILLING completes without TAKEN, and SYNCED is not set
    s.endTarget
  else s.targetFault .releasedUnsynced

end Sys2Proof.Machine
end

