-- ==== Sys2Proof/Machine/Stream.lean ====
section
/-! DEFINITION. ST's appends: the TXQ with TXQ_HIGH, and the marks with the pending mark list (5.1, 5.2). -/

namespace Sys2Proof.Machine

open Sys2Proof

/-- Append an entry at the tail of the TXQ; the append that raises the occupancy from 62 to 63 raises TXQ_HIGH (R84, R90). -/
def State.appendTx (s : State) (e : TxEntry) : State :=
  let s' := s.setSt { s.st with txq := s.st.txq ++ [e] }
  s'.raiseIf (s.st.txq.length == 62) .txqHigh

/-- The sweep ceiling: SE's own appends need fewer than 48 entries (R69). -/
def State.belowCeiling (s : State) : Bool := s.st.txq.length < Config.sweepCeiling

/-- A mark that finds the pending mark list full is dropped (R89): DISCARDED is raised and a DISCARD event captured; a dropped
RELEASE lets the detach complete. -/
def State.dropMark (s : State) (k : MarkKind) : State :=
  let s := (s.count .discarded).capture .discard none (.markKind k.code)
  if k = .release then s.detachComplete else s

/-- Append a mark, or leave it pending, or drop it (R89). -/
def State.appendMark (s : State) (k : MarkKind) : State :=
  if s.st.txq.length < Config.txqPlaces ∧ s.st.pendingMarks = [] then s.appendTx (.frame (.mark s.sc.session k))
  else if s.st.pendingMarks.length < Config.pendingMarkPlaces then
    s.setSt { s.st with pendingMarks := s.st.pendingMarks ++ [⟨s.sc.session, k⟩] }
  else s.dropMark k

/-- At a send the oldest pending mark, if any, is appended to the TXQ (R89). -/
def State.appendPending (s : State) : State :=
  match s.st.pendingMarks with
  | [] => s
  | m :: rest => (s.setSt { s.st with pendingMarks := rest }).appendTx (.frame (.mark m.session m.kind))

/-- The frame a TXQ entry goes out as; none while a slot waits for its data (R84). -/
def TxEntry.complete : TxEntry → Option Frame
  | .frame f => some f
  | .slot o i (some (p, d)) => some (.line o p i d)
  | .slot _ _ none => none

/-- Fill the reserved slot of a line with its data, in its place (R66, R84). -/
def fillSlot (o : Byte) (i : BitVec 10) (poison : Bool) (data : LineData) : List TxEntry → List TxEntry
  | [] => []
  | .slot o' i' none :: rest =>
    if o' = o ∧ i' = i then .slot o i (some (poison, data)) :: rest
    else .slot o' i' none :: fillSlot o i poison data rest
  | e :: rest => e :: fillSlot o i poison data rest

end Sys2Proof.Machine
end

