-- ==== Sys2Proof/Machine/Sweep.lean ====
section
/-! DEFINITION. SE with SC and CVU: passes, the final scan, cutover entry, visits, opens and closes, and what a transition into
DIRTY sets going (4.3 to 4.6, 9.2, 9.5). -/

namespace Sys2Proof.Machine

open Sys2Proof

/-! ### Passes and scans -/

/-- GM returns the pass counts to 0 at a pass start (R10, R70). The transitions that a wait counted toward the pass stand beside them
(R10, R150; DEDUCED, log 38). -/
def State.zeroCounts (s : State) : State := s.setGm { s.gm with nc := 0, nd := 0 }

/-- Nothing counts toward the next pass: it measures itself alone, as pass 0 and the rinse passes after a hold expiry and after
SYNC_LOST do (R71, R170, R174; DEDUCED, log 38). -/
def State.dropNext (s : State) : State := s.setGm { s.gm with ndNext := 0 }

/-- A rinse pass starts (R72): RUNNING is set, the scan index, the timer and the pass counts are 0, WAITING is cleared. -/
def State.startRinse (s : State) : State :=
  let s := s.setSe { s.se with running := true, waiting := false, scanIdx := 0, passTimer := 0 }
  s.zeroCounts

/-- What follows a pass end, a RESUME or a hold expiry that does not enter CUTOVER: a rinse pass if D is above 0, WAITING
otherwise (R73, R77, R79). -/
def State.rinseOrWait (s : State) : State :=
  if 0 < s.d then s.startRinse else s.setSe { s.se with waiting := true, running := false }

/-- The final scan has found D at 0 with no granule open: SE stops and appends CUTOVER_END (R78). -/
def State.finishScan (s : State) : State :=
  (s.setSe { s.se with running := false }).appendMark .cutoverEnd

/-- The final scan starts, or starts again, at scan index 0 (R78, R79). -/
def State.startScan (s : State) : State :=
  let s := s.setSe { s.se with running := true, waiting := false, scanIdx := 0 }
  if s.d = 0 then s.finishScan else s

/-- SC enters CUTOVER (R164). -/
def State.enterCutover (s : State) : State :=
  let s := s.setCvu { s.cvu with attempts := s.cvu.attempts + 1 }
  let s := s.setCp { s.cp with hold := true }
  let s := s.setSc { s.sc with holdTimer := .started, state := .cutover }
  let s := s.appendMark (.cutoverBegin (BitVec.ofNat 8 s.cvu.attempts))
  s.startScan

/-- A pass ends (R73, R157): its mark, its record, its alert, its number; then DEFERRED if PAUSED, else the decision. -/
def State.passEnd (s : State) : State :=
  let s := s.setSe { s.se with running := false }
  let s := s.appendMark (.passEnd (BitVec.ofNat 16 s.se.passNo) (BitVec.ofNat 24 s.d))
  let s := s.takePassEnd
  let s := s.raise .passEnd
  let s := s.setSe { s.se with passNo := satSucc Config.max16 s.se.passNo }
  if s.se.paused then (s.setSe { s.se with deferred := true }).setState .rinse
  else if s.cvu.record.eligible && s.cvu.armed then s.enterCutover
  else (s.setState .rinse).rinseOrWait

/-- With no granule open, whether the running pass or round has come to its end, and what then follows (R71, R72, R78). -/
def State.scanCheck (s : State) : State :=
  if s.se.opened.isSome || !s.se.running then s
  else match s.sc.state with
    | .sweep => if s.se.cursor.done then s.passEnd else s
    | .rinse => if s.sc.params.span ≤ s.se.scanIdx then s.passEnd else s
    | .cutover =>
      if s.d = 0 then s.finishScan
      else if s.sc.params.span ≤ s.se.scanIdx then s.setSe { s.se with scanIdx := 0 } else s
    | _ => s

/-- Pass 0 starts (R70, R71): with an empty plan it ends at its start. -/
def State.startPassZero (s : State) : State :=
  let s := s.setSe { s.se with
    running := true
    passTimer := 0
    cursor := enterExtent s.se.plan s.sc.params.span 0 }
  s.dropNext.zeroCounts.scanCheck

/-! ### Transitions into DIRTY -/

/-- GM signals SE that D has risen from 0: a WAITING SOURCE that is not PAUSED starts a rinse pass (R74). The transition that
woke it was taken while WAITING and counts toward that pass (R150). -/
def State.wake (s : State) : State := if s.se.waiting && !s.se.paused then s.startRinse else s

/-- SYNC_LOST from GM in SHADOW (R174): the rinse pass does not count the transition that raised it. -/
def State.syncLost (s : State) : State :=
  let s := s.appendMark .syncLost
  let s := (s.setState .rinse).raise .syncLost
  let s := s.setCvu { s.cvu with attempts := 0 }
  s.dropNext.startRinse

/-- A COPIED granule becomes DIRTY, with what follows at that event (R7, R10, R18): the count, the wake, SYNC_LOST. -/
def State.dirty (s : State) (g : Nat) : State :=
  let s' := s.setGm (s.gm.dirtied g s.se.betweenPasses)
  let s' := if s.d = 0 then s'.wake else s'
  if s.sourceIn .shadow then s'.syncLost else s'

/-- The open record is marked stale (R68). -/
def State.markStale (s : State) : State :=
  s.setSe { s.se with opened := s.se.opened.map fun r => { r with stale := true } }

/-- MARK-DIRTY (R7). -/
def State.markDirty (s : State) (g : Nat) : State :=
  match s.markOutcome g with
  | .dirtied => s.dirty g
  | .stale => s.markStale
  | .outside | .excluded | .unchanged => s

/-! ### Visits, opens and closes -/

/-- A visit opens a granule (R64). -/
def State.openGranule (s : State) (g : Nat) : State :=
  let o := s.se.openNo
  let s := s.setSe { s.se with opened := some ⟨g, o, 0, 0, false, 0⟩, openNo := o + 1 }
  s.appendTx (.frame (.opening (BitVec.ofNat 24 g) o))

/-- The granule the next visit is for: the cursor's in pass 0, the scan index otherwise (R62); none if there is none. -/
def State.visitTarget (s : State) : Option Nat :=
  if s.sc.state = .sweep then (if s.se.cursor.done then none else s.se.cursor.next)
  else if s.se.scanIdx < s.sc.params.span then some s.se.scanIdx else none

/-- The conditions of a visit, apart from there being a granule to visit (R62). -/
def State.mayVisit (s : State) : Bool :=
  s.sweeping && s.se.running && s.se.opened.isNone && !s.se.paused && s.belowCeiling

/-- The cursor steps, or the scan index rises, at the visit (R62). -/
def State.stepVisit (s : State) : State :=
  if s.sc.state = .sweep then
    s.setSe { s.se with cursor := s.se.cursor.step s.se.plan s.sc.params.span }
  else s.setSe { s.se with scanIdx := s.se.scanIdx + 1 }

/-- A visit of a granule (R62). -/
def State.visitGranule (s : State) (g : Nat) : State :=
  let s' := s.stepVisit
  match s.entry g with
  | some .uncopied | some .dirty => s'.openGranule g
  | _ => s'.scanCheck

/-- The event VISIT (R62): taken when its conditions hold. -/
def State.visit (s : State) : State :=
  if s.mayVisit then
    match s.visitTarget with
    | some g => s.visitGranule g
    | none => s
  else s

/-- The open record whose close can be taken now (R67): all 1,024 reservations made, the TXQ below the ceiling, no DETACH
accepted (R80). -/
def State.closeDue (s : State) : Option OpenRecord :=
  match s.se.opened with
  | some r => if s.sweeping && Config.linesPerGranule ≤ r.nextLine && s.belowCeiling then some r else none
  | none => none

/-- The close of the open granule (R67). -/
def State.closeGranule (s : State) (r : OpenRecord) : State :=
  let s := s.appendTx (.frame (.close (BitVec.ofNat 24 r.granule) r.openNo))
  let s := s.setGm (s.gm.close r.granule (s.entry r.granule) r.stale)
  let s := s.setSe { s.se with opened := none }
  s.scanCheck

/-- The close is taken if it is due (R67). -/
def State.closeIfDue (s : State) : State :=
  match s.closeDue with
  | some r => s.closeGranule r
  | none => s

/-! ### The end of a hold -/

/-- Hold is released and the hold timer stopped; no READY is awaited (R165). -/
def State.releaseHold (s : State) : State :=
  let s := s.setCp { s.cp with hold := false }
  s.setSc { s.sc with holdTimer := s.sc.holdTimer.stop, awaitingReady := false }

/-- The hold timer expires in CUTOVER (R170). -/
def State.holdExpired (s : State) : State :=
  let s := s.appendMark (.cutoverAbort (BitVec.ofNat 8 s.cvu.attempts))
  let s := s.releaseHold
  let s := s.setSc { s.sc with holdTimer := ⟨false, s.sc.params.hLimit⟩ }
  let s := (s.setState .rinse).dropNext.rinseOrWait
  let s := s.raise .cutoverAbort
  if Config.cutoverAttempts ≤ s.cvu.attempts then
    (s.setCvu { s.cvu with armed := false }).raise .cutoverGiveup
  else s

end Sys2Proof.Machine
end

