-- ==== Sys2Proof/Machine/Capture.lean ====
section
/-! DEFINITION. WCU: classification, mirrors, degrades and failed client writes (chapter 3). -/

namespace Sys2Proof.Machine

open Sys2Proof

/-- The classes of a captured write (R43). -/
inductive WriteClass where
  | pass | sweepCarried | mirror
  deriving DecidableEq, Repr

/-- The class of a write to a granule (R43). -/
def State.classify (s : State) (g : Nat) : WriteClass :=
  match s.entry g with
  | none | some .excluded => .pass
  | some .copied => .mirror
  | some .uncopied | some .dirty => if s.isOpen g then .mirror else .sweepCarried

/-- Whether WCU acts on a capture notice (R42, R54). -/
def State.captureActs (s : State) : Bool :=
  (s.sourceIn .handshake || s.sourceIn .sweep || s.sourceIn .rinse || s.sourceIn .shadow) && !s.sc.releasePending

/-- Whether WCU acts on a failure notice (R42, R53, R54). -/
def State.failureActs (s : State) : Bool := s.transmitting && !s.sc.releasePending

/-- The room a mirror needs (R46). -/
def State.mirrorRoom (s : State) : Bool :=
  s.st.txq.length < Config.txqPlaces && s.st.mrl.length < Config.mrlPlaces

/-- A mirror is made (R46): the MIRROR frame, the MRL record, and the counter raised. -/
def State.mirror (s : State) (a : LineAddr) (m : ByteMask) (data : LineData) : State :=
  let seq := s.st.mirrorSeq
  let s := s.appendTx (.frame (.mirror seq (a.setWidth 32) m data))
  s.setSt { s.st with mrl := s.st.mrl ++ [⟨seq, granuleOf a.toNat⟩], mirrorSeq := seq + 1 }

/-- A write is degraded (R48, R49). -/
def State.degrade (s : State) (a : LineAddr) : State :=
  let s := (s.markDirty (granuleOf a.toNat)).count .degraded
  s.capture .degrade (some (granuleOf a.toNat)) (.lineAddr a.toNat)

/-- A capture notice (R42, R43). -/
def State.captureNotice (s : State) (a : LineAddr) (m : ByteMask) (data : LineData) : State :=
  if s.captureActs then
    match s.classify (granuleOf a.toNat) with
    | .pass | .sweepCarried => s
    | .mirror => if s.mirrorRoom then s.mirror a m data else s.degrade a
  else s

/-- A failure notice (R42, R51). -/
def State.failureNotice (s : State) (a : LineAddr) : State :=
  if s.failureActs then
    (s.markDirty (granuleOf a.toNat)).capture .writeFail (some (granuleOf a.toNat)) (.lineAddr a.toNat)
  else s

end Sys2Proof.Machine
end

