-- ==== Sys2Proof/Machine/Receive.lean ====
section
/-! DEFINITION. SR on a TARGET: the receive buffer, the open latch, mirrors, apply writes, credits, the return list and READY
(6.3 to 6.8, 6.10). -/

namespace Sys2Proof.Machine

open Sys2Proof

/-! ### Credits and discards -/

/-- The count of freed, unreported slots rises; a CREDIT falls due as it goes from 7 to 8 (R116). -/
def State.raiseFreed (s : State) : State :=
  s.setSr { s.sr with
    freed := satSucc Config.bufferSlots s.sr.freed
    creditDue := s.sr.creditDue || s.sr.freed + 1 == Config.creditThreshold }

/-- A slot is freed at the head. In FAULT the freed count stands (R123; log 15). -/
def State.freeSlot (s : State) : State := if s.receiving then s.raiseFreed else s

/-- The granule of a discarded frame's event (R105). -/
def State.discardGranule (s : State) : Frame → Option Nat
  | .line .. => s.sr.latch.map (·.granule)
  | .mirror _ a _ _ => some (granuleOf a.toNat)
  | .opening g _ => some g.toNat
  | .close g _ => some g.toNat
  | .need g => some g.toNat
  | _ => none

/-- The line address a LINE has under the latch (R105, R110). -/
def Latch.lineAddr (l : Latch) (i : BitVec 10) : Nat := l.granule * Config.linesPerGranule + i.toNat

/-- The detail of a discarded frame's event (R105). -/
def State.discardDetail (s : State) : Frame → Detail
  | .line _ _ i _ => match s.sr.latch with
    | some l => .lineAddr (l.lineAddr i)
    | none => .absent
  | .mirror q _ _ _ => .sequence q
  | .opening .. | .close .. | .need .. => .absent
  | f => .frameKind f.kindByte

/-- A frame is discarded, with its count and its event (R105). -/
def State.discard (s : State) (f : Frame) : State :=
  (s.count .discarded).capture .discard (s.discardGranule f) (s.discardDetail f)

/-- A frame is discarded on a TARGET; in FILLING and SHADOW the clean flag is cleared (R119). -/
def State.discardTarget (s : State) (f : Frame) : State := (s.discard f).clearClean

/-- A fenced LINE or MIRROR is discarded (R105, R110, R113). -/
def State.protect (s : State) (g : Nat) (a : Nat) : State :=
  ((s.count .protect).capture .protect (some g) (.lineAddr a)).clearClean

/-! ### Decisions -/

/-- A NEED is decided (R111): in FILLING and SHADOW the clean flag is cleared and the event captured; in FAULT nothing is done
for it (R123). NEEDS is raised when it is appended (R115, R185; log 16). -/
def State.decideNeed (s : State) (g : Nat) : State :=
  if s.receiving then (s.capture .need (some g) .absent).clearClean else s

/-- A LOSS is decided (R112). The clean flag is cleared in every state (R119); in FILLING and SHADOW the event is captured, and in
FAULT nothing more is done for it (R123; log 14). -/
def State.decideLoss (s : State) (e : BitVec 16) (g : Nat) : State :=
  if s.receiving then (s.capture .loss (some g) (.sequence e)).clearClean else s.setSr { s.sr with clean := false }

/-- The granule of a latch that is left incomplete: fewer than 1,024 lines applied (R109, R111). -/
def incomplete : Option Latch → Option Nat
  | some l => if l.applied < Config.linesPerGranule then some l.granule else none
  | none => none

/-- The NEED, if one is decided, for a granule. -/
def State.decideNeedFor (s : State) : Option Nat → State
  | some g => s.decideNeed g
  | none => s

/-- The answers that carry a decided NEED; none are sent from FAULT (R123). -/
def State.needAnswers (s : State) : Option Nat → List Answer
  | some g => if s.receiving then [.need g] else []
  | none => []

/-- The latch takes a value. -/
def State.setLatch (s : State) (l : Option Latch) : State := s.setSr { s.sr with latch := l }

/-! ### The head of the receive buffer -/

/-- The frame at the head leaves, and its slot is freed (R108). -/
def State.leaveHead (s : State) : State :=
  (s.setSr { s.sr with buffer := s.sr.buffer.tail, head := none }).freeSlot

/-- What processing made of the head frame is recorded; with nothing left to do it leaves at once (R108). -/
def State.headBecomes (s : State) (answers : List Answer) (apply : Option ApplyWrite) : State :=
  if answers = [] ∧ apply = none then s.leaveHead
  else s.setSr { s.sr with head := some ⟨answers, apply⟩ }

/-- OPEN at the head (R109). -/
def State.processOpen (s : State) (f : Frame) (g : Nat) (o : Byte) : State :=
  let prev := incomplete s.sr.latch
  let answers := s.needAnswers prev
  let s := s.decideNeedFor prev
  if g < s.sc.params.span then (s.setLatch (some ⟨g, o, 0⟩)).headBecomes answers none
  else ((s.setLatch none).discardTarget f).headBecomes answers none

/-- The apply write of a LINE under the latch (R110). -/
def lineApply (l : Latch) (poison : Bool) (i : BitVec 10) (data : LineData) : ApplyWrite :=
  ⟨poison, BitVec.ofNat 30 (l.lineAddr i), BitVec.allOnes 64, data, l.granule, none⟩

/-- LINE at the head (R110). The count of lines applied has no cap: a 1,025th line under one latch raises it to 1,025, and every
value of 1,024 or more is taken as complete (DESIGN CHOICE, log 39). -/
def State.processLine (s : State) (f : Frame) (o : Byte) (poison : Bool) (i : BitVec 10) (data : LineData) : State :=
  match s.sr.latch with
  | some l =>
    if l.openNo = o then
      if s.localCovers l.granule then (s.protect l.granule (l.lineAddr i)).headBecomes [] none
      else
        (s.setLatch (some { l with applied := l.applied + 1 })).headBecomes [] (some (lineApply l poison i data))
    else (s.discardTarget f).headBecomes [] none
  | none => (s.discardTarget f).headBecomes [] none

/-- The granule a CLOSE decides a NEED for: its own, unless the latch matches it with 1,024 lines applied (R111). -/
def closeNeed (latch : Option Latch) (g : Nat) (o : Byte) : Option Nat :=
  match latch with
  | some l => if l.granule = g ∧ l.openNo = o ∧ Config.linesPerGranule ≤ l.applied then none else some g
  | none => some g

/-- CLOSE at the head (R111). -/
def State.processClose (s : State) (g : Nat) (o : Byte) : State :=
  let need := closeNeed s.sr.latch g o
  let answers := s.needAnswers need
  ((s.decideNeedFor need).setLatch none).headBecomes answers none

/-- A MIRROR in sequence is judged by its granule (R113). `answers` holds its LOSS, if one was decided. -/
def State.judgeMirror (s : State) (f : Frame) (q : BitVec 16) (a : BitVec 32) (m : ByteMask) (data : LineData)
    (answers : List Answer) : State :=
  let g := granuleOf a.toNat
  if s.sc.params.span ≤ g then (s.discardTarget f).headBecomes answers none
  else if s.localCovers g then (s.protect g a.toNat).headBecomes answers none
  else s.headBecomes answers (some ⟨false, a.setWidth 30, m, data, g, some q⟩)

/-- MIRROR at the head (R112). -/
def State.processMirror (s : State) (f : Frame) (q : BitVec 16) (a : BitVec 32) (m : ByteMask) (data : LineData) : State :=
  let e := s.sr.expected
  let d := q - e
  if 32768 ≤ d.toNat then (s.discardTarget f).headBecomes [] none
  else
    let s := s.setSr { s.sr with expected := q + 1 }
    if d = 0 then s.judgeMirror f q a m data []
    else
      let answers := if s.receiving then [Answer.loss e d] else []
      (s.decideLoss e (granuleOf a.toNat)).judgeMirror f q a m data answers

/-- PASS_END, CUTOVER_BEGIN and CUTOVER_END settle a latch left set (R111). -/
def State.settleLatch (s : State) : State :=
  (s.decideNeedFor (incomplete s.sr.latch)).setLatch none

/-- MARK at the head, with the TARGET in FILLING or SHADOW (R118). -/
def State.processMark (s : State) (f : Frame) (session : Byte) (k : MarkKind) : State :=
  if session ≠ s.sc.session then (s.discardTarget f).headBecomes [] none
  else
    let answers := s.needAnswers (incomplete s.sr.latch)
    match k with
    | .passEnd p d =>
      let s := s.settleLatch
      (s.setSr { s.sr with lastReport := some ⟨p.toNat, d.toNat⟩ }).headBecomes answers none
    | .cutoverBegin _ =>
      let s := s.settleLatch
      (s.setSr { s.sr with clean := true }).headBecomes answers none
    | .cutoverEnd =>
      if s.targetIn .filling then s.settleLatch.headBecomes (answers ++ [.ready]) none
      else (s.settleLatch.discardTarget f).headBecomes answers none
    | .cutoverAbort _ | .syncLost => s.returnToFilling.headBecomes [] none
    | .release => (s.headBecomes [] none).releaseTaken

/-- The frame at the head is processed (R108). In FAULT only LINE and MIRROR are judged; every other frame is consumed
without effect (R123; log 14). A HELLO is counted, captured and clears the clean flag here, at its processing, also where its
REFUSE_STATE has to wait for a place (R107; DESIGN CHOICE, log 40). -/
def State.processHead (s : State) (f : Frame) : State :=
  match f with
  | .line o p i d => s.processLine f o p i d
  | .mirror q a m d => s.processMirror f q a m d
  | .opening g o => if s.receiving then s.processOpen f g.toNat o else s.leaveHead
  | .close g o => if s.receiving then s.processClose g.toNat o else s.leaveHead
  | .mark n k => if s.receiving then s.processMark f n k else s.leaveHead
  | .hello n _ _ => if s.receiving then (s.discardTarget f).headBecomes [.refuse n] none else s.leaveHead
  | .reply .. | .credit .. | .need .. | .loss .. | .ready .. | .taken .. | .keep =>
    if s.receiving then (s.discardTarget f).headBecomes [] none else s.leaveHead

/-! ### Claims on the return list (R117) -/

/-- A claim that waits for a place in the return list. -/
inductive Claim where
  | taken
  | failed (g : Nat)
  | answer (a : Answer)
  | credit
  deriving DecidableEq, Repr

/-- The first waiting claim, in the order of R117. -/
def State.firstClaim (s : State) : Option Claim :=
  if s.sc.takenWaiting then some .taken
  else if s.receiving then
    match s.sr.failedApply with
    | g :: _ => some (.failed g)
    | [] => match s.sr.head with
      | some ⟨a :: _, _⟩ => some (.answer a)
      | _ => if s.sr.creditDue then some .credit else none
  else none

/-- The claim that takes a place now: the first waiting one, if the return list has a place (R100, R117). -/
def State.placeable (s : State) : Option Claim :=
  if s.st.returnList.length < Config.returnPlaces then s.firstClaim else none

/-- A frame takes a place in the return list. -/
def State.appendReturn (s : State) (f : Frame) : State :=
  s.setSt { s.st with returnList := s.st.returnList ++ [f] }

/-- The head frame's first answer has been appended; after its last, a frame with no apply write leaves (R108). -/
def State.answered (s : State) : State :=
  match s.sr.head with
  | some h => s.headBecomes h.answers.tail h.apply
  | none => s

/-- READY is appended (R120): the answer is taken from the clean flag at this event. -/
def State.appendReady (s : State) : State :=
  if s.sr.clean then (s.appendReturn (.ready s.sc.session true)).setState .shadow
  else
    let s := s.appendReturn (.ready s.sc.session false)
    s.setSr { s.sr with clean := true }

/-- An answer of the head frame is appended (R108, R111, R112, R120). -/
def State.appendAnswer (s : State) : Answer → State
  | .need g => ((s.appendReturn (.need (BitVec.ofNat 24 g))).count .needs).answered
  | .loss e d => ((s.appendReturn (.loss e d)).count .losses).answered
  | .refuse n => (s.appendReturn (.reply n .refuseState [])).answered
  | .ready => s.appendReady.answered

/-- A CREDIT is appended with the count and the acknowledgement of this event (R116). -/
def State.appendCredit (s : State) : State :=
  let s := s.appendReturn (.credit (BitVec.ofNat 8 s.sr.freed) s.sr.lastGranted)
  s.setSr { s.sr with freed := 0, creditDue := false }

/-- A claim takes its place (R117). -/
def State.appendClaim (s : State) : Claim → State
  | .taken => (s.appendReturn (.taken s.sc.session)).setSc { s.sc with takenWaiting := false }
  | .failed g =>
    let s := (s.appendReturn (.need (BitVec.ofNat 24 g))).count .needs
    s.setSr { s.sr with failedApply := s.sr.failedApply.tail }
  | .answer a => s.appendAnswer a
  | .credit => s.appendCredit

/-- The frame that has become the head and has not been processed, on a TARGET that processes its buffer. -/
def State.unprocessed (s : State) : Option Frame :=
  if s.receiving || s.targetIn .fault then
    match s.sr.head, s.sr.buffer with
    | none, f :: _ => some f
    | _, _ => none
  else none

/-- Claims take places while there are both, then the next head is processed, until neither is possible (R108, R117; log 17).
The bound counts the steps left. -/
def State.pumpFor : Nat → State → State
  | 0, s => s
  | n + 1, s =>
    match s.placeable with
    | some c => State.pumpFor n (s.appendClaim c)
    | none => match s.unprocessed with
      | some f => State.pumpFor n (s.processHead f)
      | none => s

/-- SR and the return list settle at the end of an event. Every step takes one of the 16 places or one of the frames. -/
def State.pump (s : State) : State := State.pumpFor (Config.returnPlaces + s.sr.buffer.length + 1) s

/-! ### Apply writes (6.6) -/

/-- The apply writes outstanding at the memory side (R115). -/
def State.appliesOut (s : State) : Nat :=
  s.mp.table.countP fun r => match r.owner with
    | .apply _ _ => true
    | _ => false

/-- The apply write SR offers to MP (R114): the head's, once its answers are appended; in FILLING and SHADOW it waits while
the applies outstanding and the failed-apply list number 16 together. -/
def State.offeredApply (s : State) : Option ApplyWrite :=
  match s.sr.head with
  | some ⟨[], some a⟩ =>
    if s.targetIn .fault then some a
    else if s.receiving && s.appliesOut + s.sr.failedApply.length < Config.ownTags then some a
    else none
  | _ => none

/-- SR's part in the grant of an apply write (R114). -/
def State.applyGranted (s : State) (a : ApplyWrite) : State :=
  let s := s.leaveHead
  match a.seq with
  | some q => s.setSr { s.sr with lastGranted := q }
  | none => s

/-- The response to an apply write, its status still wanted (R115). -/
def State.applyDone (s : State) (g : Nat) (a : LineAddr) (fail : Bool) : State :=
  if fail then
    let s := s.capture .writeFail (some g) (.lineAddr a.toNat)
    if s.receiving then
      let s := s.decideNeed g
      (s.setSr { s.sr with failedApply := s.sr.failedApply ++ [g] }).pump
    else s
  else s

end Sys2Proof.Machine
end

