-- ==== Sys2Proof/Machine/Ports.lean ====
section
/-! DEFINITION. CP and MP: the ingress queue, fencing at its head, the share arbiter, grants and responses (chapter 2). -/

namespace Sys2Proof

/-! ### Client requests and memory responses -/

/-- The tag of a client request, as a tag of the request table. -/
def ClientRequest.tagNo : ClientRequest → Nat
  | .read t _ => t.val
  | .write t _ _ _ => t.val

/-- The line address of a client request. -/
def ClientRequest.line : ClientRequest → LineAddr
  | .read _ a => a
  | .write _ a _ _ => a

/-- The kind of a client request. -/
def ClientRequest.kind : ClientRequest → Machine.RequestKind
  | .read .. => .read
  | .write .. => .write

/-- The request as MP sends it (R29). -/
def ClientRequest.toMemory : ClientRequest → Machine.MemRequest
  | .read _ a => .read a
  | .write _ a m d => .write a m d

/-- The tag of a response. -/
def MemResponse.tagNo : MemResponse → Nat
  | .data t _ _ => t
  | .done t _ => t

/-- Whether a response is of the kind its record waits for (R35). -/
def MemResponse.matches : MemResponse → Machine.RequestKind → Bool
  | .data .., .read => true
  | .done .., .write => true
  | .done .., .writePoison => true
  | _, _ => false

/-- The response as CP delivers it (R22). -/
def MemResponse.toClient : MemResponse → Machine.ClientResponse
  | .data _ d p => .data d p
  | .done _ fail => if fail then .doneFail else .doneOk

end Sys2Proof

namespace Sys2Proof.Machine

open Sys2Proof

/-- Whether a client tag is outstanding: its request waits in the ingress queue or is at the memory side (R23). -/
def State.tagOutstanding (s : State) (t : Nat) : Bool :=
  (s.cp.queue.any fun r => r.tagNo == t) || (s.recordOf t).isSome

/-! ### Credits and fencing at the queue head -/

/-- CP returns one credit to the client (R24). -/
def State.returnCredit (s : State) : State :=
  (s.setCp { s.cp with credits := s.cp.credits + 1 }).emit (.clientCredits 1)

/-- The head write is refused on a fenced TARGET (R28). -/
def State.refuseHead (s : State) (t : Nat) (a : LineAddr) : State :=
  let s := s.setCp { s.cp with queue := s.cp.queue.tail }
  let s := (s.emit (.clientResponse t .doneRefused)).returnCredit
  (s.count .refusedWrites).capture .refusedWrite (some (granuleOf a.toNat)) (.lineAddr a.toNat)

/-- The writes at the head are judged in turn, each as it becomes the head (R28). The bound is the queue's length. -/
def State.judgeFor : Nat → State → State
  | 0, s => s
  | n + 1, s =>
    match s.cp.queue with
    | .write t a _ _ :: _ =>
      if s.fencing && !s.localCovers (granuleOf a.toNat) then State.judgeFor n (s.refuseHead t.val a) else s
    | _ => s

/-- CP judges the head of the ingress queue on a fenced TARGET (R28). -/
def State.judgeHead (s : State) : State := State.judgeFor s.cp.queue.length s

/-- A client request arrives (R21, R23, R24). -/
def State.arrive (s : State) (r : ClientRequest) : State :=
  if Config.ingressPlaces ≤ s.cp.queue.length then s.count .protocol
  else if s.tagOutstanding r.tagNo then
    let s := s.setCp { s.cp with credits := s.cp.credits - 1 }
    s.returnCredit.count .protocol
  else
    (s.setCp { s.cp with queue := s.cp.queue ++ [r], credits := s.cp.credits - 1 }).judgeHead

/-! ### The share arbiter (2.4) -/

/-- Shadow stall holds back the head write (R27). -/
def State.shadowStall (s : State) : Bool :=
  s.sourceIn .shadow && s.sc.params.stall &&
    match s.cp.queue with
    | .write _ a _ _ :: _ =>
      ((s.entry (granuleOf a.toNat)).isSome && s.entry (granuleOf a.toNat) != some .excluded) &&
        (Config.txqPlaces ≤ s.st.txq.length || Config.mrlPlaces ≤ s.st.mrl.length)
    | _ => false

/-- The CLIENT class is ready (R25, R26, R27). -/
def State.clientReady (s : State) : Bool := !s.cp.queue.isEmpty && !s.cp.hold && !s.shadowStall

/-- An own request on offer: SE's next line read (R65), or SR's apply write (R114). -/
inductive OwnOffer where
  | sweep (granule : Nat) (openNo : Byte) (index : Nat)
  | apply (a : ApplyWrite)
  deriving DecidableEq, Repr

/-- The line read SE offers (R65). -/
def State.offeredRead (s : State) : Option OwnOffer :=
  match s.se.opened with
  | some r =>
    if s.sweeping && r.nextLine < Config.linesPerGranule && !s.se.paused && s.belowCeiling then
      some (.sweep r.granule r.openNo r.nextLine)
    else none
  | none => none

/-- What the own requester offers at an arbitration (R32). -/
def State.ownOffer (s : State) : Option OwnOffer :=
  match s.sc.role with
  | .source => s.offeredRead
  | .target => s.offeredApply.map .apply
  | .none => none

/-- The OWN class is ready with this tag and offer (R36): an own tag is free and a request is on offer. -/
def State.ownReady (s : State) : Option (Nat × OwnOffer) :=
  match s.freeOwnTag, s.ownOffer with
  | some t, some o => some (t, o)
  | _, _ => none

/-- K after a contested arbitration, and whether OWN is granted (R36). -/
def arbiterStep (k share : Nat) : Nat × Bool := if 16 ≤ k + share then (k + share - 16, true) else (k + share, false)

/-- A request goes to the memory side at its grant: a record is made and a credit spent (R31, R32). -/
def State.grantRecord (s : State) (r : MemRecord) (q : MemRequest) : State :=
  (s.setMp { s.mp with credits := s.mp.credits - 1, table := s.mp.table ++ [r] }).emit (.memRequest r.tag q)

/-- WCU is told of a granted client write (R31). -/
def State.noticeGrant (s : State) : ClientRequest → State
  | .read .. => s
  | .write _ a m d => s.captureNotice a m d

/-- The grant of the CLIENT class (R31). -/
def State.grantClient (s : State) (r : ClientRequest) : State :=
  let s := (s.setCp { s.cp with queue := s.cp.queue.tail }).returnCredit
  let s := s.grantRecord ⟨r.tagNo, .client, r.kind, r.line⟩ r.toMemory
  (s.noticeGrant r).judgeHead

/-- The line address of a sweep read (R65). -/
def sweepAddr (g i : Nat) : LineAddr := BitVec.ofNat 30 (g * Config.linesPerGranule + i)

/-- The grant of a sweep read (R65): the LINE slot is reserved, the next line rises; then the close, if due, is taken
(R67; log 9). -/
def State.grantSweep (s : State) (t g : Nat) (o : Byte) (i : Nat) : State :=
  let idx := BitVec.ofNat 10 i
  let s := s.grantRecord ⟨t, .sweep (some (o, idx)), .read, sweepAddr g i⟩ (.read (sweepAddr g i))
  let s := s.appendTx (.slot o idx none)
  let s := s.setSe { s.se with opened := s.se.opened.map fun r => { r with nextLine := r.nextLine + 1 } }
  s.closeIfDue

/-- The request of an apply write (R110, R113). -/
def ApplyWrite.toMemory (a : ApplyWrite) : MemRequest := if a.poison then .writePoison a.addr else .write a.addr a.mask a.data

/-- The kind of an apply write (R29). -/
def ApplyWrite.kind (a : ApplyWrite) : RequestKind := if a.poison then .writePoison else .write

/-- The grant of an apply write (R32, R114). -/
def State.grantApply (s : State) (t : Nat) (a : ApplyWrite) : State :=
  let s := s.grantRecord ⟨t, .apply a.granule true, a.kind, a.addr⟩ a.toMemory
  (s.applyGranted a).pump

/-- The grant of the OWN class (R32). -/
def State.grantOwn (s : State) (t : Nat) : OwnOffer → State
  | .sweep g o i => s.grantSweep t g o i
  | .apply a => s.grantApply t a

/-- One arbitration (R36). With no credit free or no class ready none is made. -/
def State.arbitrate (s : State) : State :=
  if s.mp.credits = 0 then s
  else
    match s.cp.queue.head?, s.ownReady with
    | some r, some (t, o) =>
      if s.clientReady then
        let s' := s.setMp { s.mp with k := (arbiterStep s.mp.k s.cvu.share).1 }
        if (arbiterStep s.mp.k s.cvu.share).2 then s'.grantOwn t o else s'.grantClient r
      else s.grantOwn t o
    | some r, none => if s.clientReady then s.grantClient r else s
    | none, some (t, o) => s.grantOwn t o
    | none, none => s

/-! ### Responses (R33 to R35) -/

/-- A response to a client request: delivered; a failed write is told to WCU (R33). -/
def State.clientResponse (s : State) (r : MemRecord) (q : MemResponse) : State :=
  let s := s.emit (.clientResponse r.tag q.toClient)
  match q with
  | .done _ true => s.failureNotice r.addr
  | _ => s

/-- The open record counts a line returned, if the open it was read under still stands (R66). -/
def OpenRecord.lineReturned (r : OpenRecord) (o : Byte) (g : Nat) (poison : Bool) : OpenRecord :=
  if r.openNo = o ∧ r.granule = g then
    { r with returned := r.returned + 1, poison := if poison then r.poison + 1 else r.poison }
  else r

/-- A response to a sweep read whose slot still stands (R66). -/
def State.fillLine (s : State) (a : LineAddr) (o : Byte) (i : BitVec 10) (data : LineData) (poison : Bool) : State :=
  let g := granuleOf a.toNat
  let s := s.setSt { s.st with txq := fillSlot o i poison data s.st.txq }
  let s := s.setSe { s.se with opened := s.se.opened.map fun r => r.lineReturned o g poison }
  if poison then (s.count .poisoned).capture .poison (some g) (.lineAddr a.toNat) else s

/-- A matched response is routed by its record (R33, R34); data with no slot left to fill and status no longer wanted are
dropped (R41, R81, R115). -/
def State.route (s : State) (r : MemRecord) (q : MemResponse) : State :=
  match r.owner, q with
  | .client, _ => s.clientResponse r q
  | .sweep (some (o, i)), .data _ d p => s.fillLine r.addr o i d p
  | .apply g true, .done _ fail => s.applyDone g r.addr fail
  | _, _ => s

/-- A response arrives from the memory side (R33 to R35). -/
def State.respond (s : State) (q : MemResponse) : State :=
  match s.recordOf q.tagNo with
  | some r => if q.matches r.kind then (s.takeRecord r.tag).route r q else s.count .protocol
  | none => s.count .protocol

end Sys2Proof.Machine
end

