-- ==== Sys2Proof/Machine/Records.lean ====
section
/-! DEFINITION. The records that replies carry, as bytes (R182, R183, R82, R159, R19; layouts of 11.3). An absent field is sent as
zero (R196). -/

namespace Sys2Proof.Machine

open Sys2Proof

def Role.code : Role → Nat
  | .none => 0 | .source => 1 | .target => 2

def SessionState.code : SessionState → Nat
  | .idle => 0 | .listen => 1 | .handshake => 2 | .sweep => 3 | .rinse => 4 | .cutover => 5 | .shadow => 6 | .filling => 7
  | .fault => 8

def LockMode.code : LockMode → Nat
  | .unlocked => 0 | .strap => 1 | .session => 2

def ResultCode.code : ResultCode → Nat
  | .ok => 0 | .state => 1 | .unarmed => 2 | .locked => 3 | .param => 4 | .unknown => 5

def ResetKind.code : ResetKind → Nat
  | .powerOn => 1 | .line => 2 | .command => 3

def FaultReason.code : FaultReason → Nat
  | .handshakeTimeout => 1 | .linkDown => 2 | .silent => 3 | .releasedUnsynced => 4 | .answerLost => 5

/-- START_FAIL's reason: 1 REFUSE_SPAN, 2 REFUSE_STATE. -/
def startFailCode : Option ReplyAnswer → Nat
  | some .refuseSpan => 1
  | some .refuseState => 2
  | _ => 0

def TestPoint.code : TestPoint → Nat
  | .passEnd => 0 | .deferred => 1 | .resume => 2 | .command => 3

def EventKind.code : EventKind → Nat
  | .none => 0 | .degrade => 1 | .discard => 2 | .need => 3 | .loss => 4 | .writeFail => 5 | .poison => 6
  | .refusedWrite => 7 | .protect => 8

/-- The codes of a granule's state in the map reply; none is OUTSIDE. -/
def entryCode : Option GranuleState → Nat
  | some .uncopied => 0
  | some .copied => 1
  | some .dirty => 2
  | some .excluded => 3
  | none => 4

/-- The tag and the value of an event's detail. -/
def Detail.tag : Detail → Nat
  | .absent => 0 | .sequence _ => 1 | .lineAddr _ => 2 | .frameKind _ => 3 | .markKind _ => 4

def Detail.value : Detail → Nat
  | .absent => 0 | .sequence s => s.toNat | .lineAddr a => a | .frameKind k => k.toNat | .markKind k => k.toNat

/-- The session parameter block (11.3). -/
def paramBytes (role : Role) (p : Params) : List Byte :=
  toBytes 1 role.code ++ toBytes 3 p.span ++ toBytes 1 (bitVal p.manual 0) ++ toBytes 1 (bitVal p.stall 0) ++
  toBytes 2 p.dMax ++ toBytes 2 p.hLimit ++ toBytes 2 p.qAllow ++ toBytes 2 p.ki ++ toBytes 1 p.sl ++ toBytes 1 p.share

/-- The session flags, byte 3 of the status record. -/
def State.statusFlags (s : State) : Nat :=
  bitVal s.sc.linkUp 0 + bitVal s.sc.releasePending 1 + bitVal s.sc.takeoverPending 2 + bitVal s.sc.startFail.isSome 3 +
  bitVal s.sc.synced 4 + bitVal s.sc.unsynced 5 + bitVal s.mgp.armLatch 6 + bitVal s.alertLine 7

/-- RUNNING, WAITING, PAUSED and DEFERRED as the records carry them. -/
def Se.flags (e : Se) : Nat := bitVal e.running 0 + bitVal e.waiting 1 + bitVal e.paused 2 + bitVal e.deferred 3

/-- SE as the records show it: on a TARGET, which runs no sweep, the plan with the values after reset, whatever an earlier session
as a SOURCE left (R82; in STATUS DEDUCED, log 42). -/
def State.shownSe (s : State) : Se := if s.sc.role = .target then { Se.initial with plan := s.se.plan } else s.se

/-- The pass record as READ_PASS shows it: on a TARGET the cleared record, with valid clear, and in every other role the record as it
stands, that of an ended session until the next START or reset (R149, R159). -/
def State.shownRecord (s : State) : PassRecord := if s.sc.role = .target then .cleared else s.cvu.record

/-- The last pass report as STATUS shows it: absent on a SOURCE (R182). -/
def State.shownReport (s : State) : Option PassReport := if s.sc.role = .source then none else s.sr.lastReport

/-- The receive buffer occupancy and OVERFLOW as STATUS shows them: 0 and clear on a SOURCE (R182). -/
def State.shownOccupancy (s : State) : Nat := if s.sc.role = .source then 0 else s.sr.buffer.length
def State.shownOverflow (s : State) : Bool := s.sc.role != .source && s.sr.overflow

/-- The census, as the records carry it. -/
def Census.bytes (c : Census) : List Byte :=
  toBytes 3 c.uncopied ++ toBytes 3 c.copied ++ toBytes 3 c.dirty ++ toBytes 3 c.excluded

/-- The nine counters in the order of the status record. -/
def Counters.bytes (k : Counters) : List Byte :=
  toBytes 3 k.degraded ++ toBytes 3 k.discarded ++ toBytes 3 k.protect ++ toBytes 3 k.protocol ++ toBytes 3 k.poisoned ++
  toBytes 3 k.needs ++ toBytes 3 k.losses ++ toBytes 3 k.refusedWrites ++ toBytes 3 k.readyLate

/-- The status record (R182, 11.3). -/
def State.statusRecord (s : State) : List Byte :=
  toBytes 1 s.sc.role.code ++ toBytes 1 s.sc.state.code ++ [s.sc.session] ++ toBytes 1 s.statusFlags ++
  toBytes 1 (startFailCode s.sc.startFail) ++ toBytes 1 ((s.sc.faultReason.map FaultReason.code).getD 0) ++
  toBytes 2 s.sc.handshake.count ++ paramBytes s.sc.role s.sc.params ++
  toBytes 2 s.shownSe.passNo ++ toBytes 1 s.shownSe.flags ++
  s.gm.census.bytes ++ toBytes 1 s.gm.lock.code ++
  toBytes 1 (bitVal s.shownReport.isSome 0 + bitVal s.shownOverflow 1) ++
  toBytes 2 ((s.shownReport.map (·.pass)).getD 0) ++ toBytes 3 ((s.shownReport.map (·.d)).getD 0) ++
  toBytes 1 s.shownOccupancy ++
  toBytes 1 s.st.sendCredits ++ toBytes 1 s.st.txq.length ++ toBytes 1 s.st.pendingMarks.length ++
  toBytes 1 s.st.mrl.length ++
  toBytes 1 s.cvu.share ++ toBytes 1 s.sc.params.share ++ toBytes 1 (bitVal s.cvu.armed 0 + 2 * s.cvu.attempts) ++
  toBytes 1 s.mgp.lastResult.code ++ toBytes 1 s.mgp.cause.code ++
  toBytes 2 s.au.latch.toNat ++ toBytes 2 s.au.mask.toNat ++ s.mgp.counters.bytes

/-- The pass record (R159, 11.3). -/
def PassRecord.bytes (r : PassRecord) : List Byte :=
  toBytes 1 (bitVal r.valid 0 + bitVal r.cHeld 1 + bitVal r.eligible 2 + bitVal r.converging 3) ++ toBytes 1 r.point.code ++
  toBytes 2 r.passNo ++ toBytes 3 r.t ++ toBytes 3 r.nc ++ toBytes 3 r.nd ++ toBytes 3 r.d ++ toBytes 2 r.c ++
  toBytes 2 r.r ++ toBytes 3 r.h ++ toBytes 1 r.streak

/-- The event capture record (R183, 11.3). -/
def EventRecord.bytes (e : EventRecord) : List Byte :=
  toBytes 1 e.kind.code ++ toBytes 1 (bitVal e.unread 0 + bitVal e.overrun 1 + bitVal e.granule.isSome 2) ++
  toBytes 1 e.detail.tag ++ toBytes 3 (e.granule.getD 0) ++ toBytes 4 e.detail.value ++ toBytes 2 e.pass

/-- Whether the open granule is this one and its record is stale (R19). -/
def State.openStale (s : State) (g : Nat) : Bool := s.se.opened.any fun r => r.granule == g && r.stale

/-- The map reply for a granule (R19, 11.3). -/
def State.mapReply (s : State) (g : Nat) : List Byte :=
  toBytes 1 (entryCode (s.entry g)) ++
  toBytes 1 (bitVal (s.isOpen g) 0 + bitVal (s.openStale g) 1 + bitVal (s.localCovers g) 2 + bitVal (s.peerCovers g) 3)

/-- A remaining count of the cursor; zero for a level the extent lacks (R82). -/
def Cursor.remainingAt (c : Cursor) (i : Nat) : Nat := c.remaining.getD i 0

/-- The open record's fields in the cursor reply; zeros if no granule is open (R82). -/
def openBytes : Option OpenRecord → List Byte
  | some r => toBytes 3 r.granule ++ [r.openNo] ++ toBytes 2 r.nextLine ++ toBytes 2 r.returned ++ toBytes 2 r.poison
  | none => List.replicate 10 0#8

/-- SE in the cursor reply's layout (11.3). -/
def Se.cursorBytes (e : Se) : List Byte :=
  toBytes 1 e.plan.length ++ toBytes 1 e.cursor.extent ++ toBytes 1 e.cursor.remaining.length ++
  toBytes 2 (e.cursor.remainingAt 0) ++ toBytes 2 (e.cursor.remainingAt 1) ++ toBytes 2 (e.cursor.remainingAt 2) ++
  toBytes 3 (e.cursor.next.getD 0) ++
  toBytes 1 (bitVal e.cursor.done 0 + bitVal e.cursor.next.isSome 1 + bitVal e.opened.isSome 2 +
    bitVal (e.opened.any (·.stale)) 3) ++
  toBytes 1 e.flags ++
  toBytes 3 e.scanIdx ++ toBytes 2 e.passNo ++ toBytes 3 e.passTimer ++ [e.openNo] ++
  openBytes e.opened

/-- The cursor reply (R82): SE as it stands, and on a TARGET the plan length with the values after reset. -/
def State.cursorReply (s : State) : List Byte := s.shownSe.cursorBytes

/-- The reply as it stands in the reply buffer: result code, data length, data (R177, R199). -/
def Reply.bytes (r : Reply) : List Byte := toBytes 1 r.code.code ++ toBytes 1 r.data.length ++ r.data

/-- What a read transaction of n bytes returns: the reply from its first byte, zeros past its end (R177). -/
def State.readReply (s : State) (n : Nat) : List Byte := (s.mgp.reply.bytes ++ List.replicate n 0#8).take n

end Sys2Proof.Machine
end

