-- ==== Sys2Proof/Machine/Resets.lean ====
section
/-! DEFINITION. The three kinds of reset and the releases (10.8, and the reset tables R20, R38 to R41, R83, R102, R124, R148,
R161, R175, R194). -/

namespace Sys2Proof.Machine

open Sys2Proof

/-- A POWER_ON reset is taken (R190). The straps keep their last sampling until the release; the model's queue is kept. -/
def State.powerOnReset (s : State) : State :=
  { State.reset with
    phase := .inPowerOn
    cp := { State.reset.cp with credits := 0 }
    mgp := { Mgp.initial with straps := s.mgp.straps }
    pending := s.pending }

/-- A LINE reset is taken (R191): as POWER_ON, but GM keeps its local fences and its lock (R20). -/
def State.lineReset (s : State) : State :=
  { State.reset with
    phase := .inLine
    cp := { State.reset.cp with credits := 0 }
    gm := { Gm.initial with localFences := s.gm.localFences, lock := s.gm.lock }
    mgp := { Mgp.initial with straps := s.mgp.straps, cause := .line }
    pending := s.pending }

/-- The release of a POWER_ON or LINE reset: the client port issues its 32 credits (R24, R38), the memory port holds 48 (R39),
and the straps are sampled (R178). -/
def State.release (s : State) (straps : BitVec 3) : State :=
  let s := s.setPhase .running
  let s := s.setCp { s.cp with credits := Config.ingressPlaces }
  let s := s.setMgp { s.mgp with straps := straps }
  s.emit (.clientCredits Config.ingressPlaces)

/-- SC after a COMMAND reset (R148, R175): role, session number, parameters and link state kept. -/
def Sc.commandReset (c : Sc) : Sc :=
  { Sc.initial with role := c.role, session := c.session, params := c.params, linkUp := c.linkUp }

/-- A COMMAND reset is taken (R192). -/
def State.commandReset (s : State) : State :=
  let s := s.dropOwn
  let s := s.setCp { s.cp with hold := false }
  let s := s.setMp { s.mp with k := 0 }
  let s := s.setGm { Gm.initial with localFences := s.gm.localFences, lock := s.gm.lock }
  let s := s.setSe { Se.initial with plan := s.se.plan }
  let s := s.setSt .initial
  let s := s.setSr .initial
  let s := s.setSc s.sc.commandReset
  let s := s.setCvu { Cvu.initial with share := s.sc.params.share }
  let s := s.setMgp { Mgp.initial with straps := s.mgp.straps, cause := .command }
  s.setAu .initial

end Sys2Proof.Machine
end

