-- ==== Sys2Proof/Machine/Management.lean ====
section
/-! DEFINITION. The meanings of the management commands (chapter 10, and the chapters that own each command). -/

namespace Sys2Proof.Machine

open Sys2Proof

/-- Accept with no reply data, or refuse with a code. -/
def acceptIf (c : Bool) (code : ResultCode) (s : State) : CommandResult := if c then .accept s [] else .refuse code

/-- Whether the part is IDLE, in any role. -/
def State.isIdle (s : State) : Bool := s.sc.state == .idle

/-! ### Latches, shares and records -/

/-- STATUS (R182): the record is taken before the command's own result code is written. -/
def execStatus (ps : List Byte) (s : State) : Answered := command false 0 false ps (fun s => .accept s s.statusRecord) s

/-- ARM (R180). -/
def execArm (ps : List Byte) (s : State) : Answered :=
  command false 0 false ps (fun s => .accept (s.setMgp { s.mgp with armLatch := true }) []) s

/-- DISARM (R180). -/
def execDisarm (ps : List Byte) (s : State) : Answered :=
  command false 0 false ps (fun s => .accept (s.setMgp { s.mgp with armLatch := false }) []) s

/-- SET-SHARE's value becomes the share in use and the share parameter (R156). -/
def State.setShare (s : State) (n : Nat) : State :=
  let s := s.setCvu { s.cvu with share := n }
  s.setSc { s.sc with params := { s.sc.params with share := n } }

/-- SET_SHARE (R156). -/
def execSetShare (ps : List Byte) (s : State) : Answered :=
  command false 1 false ps (fun s => .accept (s.setShare (clamp 1 Config.maxShare (field ps 0 1))) []) s

/-- READ_CURSOR (R82). -/
def execReadCursor (ps : List Byte) (s : State) : Answered := command false 0 false ps (fun s => .accept s s.cursorReply) s

/-- READ_PASS (R159): the record as this role shows it. -/
def execReadPass (ps : List Byte) (s : State) : Answered := command false 0 false ps (fun s => .accept s s.shownRecord.bytes) s

/-- READ_MAP (R19). -/
def execReadMap (ps : List Byte) (s : State) : Answered :=
  command false 3 false ps
    (fun s => if field ps 0 3 < Config.maxGranules then .accept s (s.mapReply (field ps 0 3)) else .refuse .param) s

/-- The event record after its reading (R184). -/
def State.eventRead (s : State) : State :=
  s.setMgp { s.mgp with event := { s.mgp.event with unread := false, overrun := false } }

/-- READ_EVENT (R184). -/
def execReadEvent (ps : List Byte) (s : State) : Answered :=
  command false 0 false ps (fun s => .accept s.eventRead s.mgp.event.bytes) s

/-- ACK_ALERTS (R188). -/
def execAckAlerts (ps : List Byte) (s : State) : Answered :=
  command false 2 false ps (fun s => .accept (s.setAu { s.au with latch := s.au.latch &&& ~~~alertFlags ps }) []) s

/-- SET_MASK (R187). -/
def execSetMask (ps : List Byte) (s : State) : Answered :=
  command false 2 false ps (fun s => .accept (s.setAu { s.au with mask := alertFlags ps }) []) s

/-- The nine counters and OVERFLOW are cleared (R185). -/
def State.clearCounters (s : State) : State :=
  let s := s.setMgp { s.mgp with counters := .zero }
  s.setSr { s.sr with overflow := false }

/-- CLEAR_COUNTERS (R185). -/
def execClearCounters (ps : List Byte) (s : State) : Answered :=
  command false 0 false ps (fun s => .accept s.clearCounters []) s

/-! ### Session parameters, plan and fences -/

/-- Whether a SET-SESSION removes the map (R4): the new role is TARGET, or the span differs from the map's. -/
def State.mapLeaves (s : State) (role : Role) (span : Nat) : Bool :=
  role == .target || s.gm.map.any fun m => m.length != span

/-- CVU at the acceptance of SET-SESSION: the share in use is the new share (R156, R181). A part that becomes a TARGET has its
held C and streak as START leaves them, its armed flag clear and its attempt count 0 (R149; that this is their event is DEDUCED, log 43).
The record of an ended session is kept: it stays readable until the next START or reset (R159), and `State.shownRecord` hides it while
the part is a TARGET. -/
def Cvu.forRole (c : Cvu) (role : Role) (share : Nat) : Cvu :=
  if role = .target then { Cvu.initial with share := share, record := c.record } else { c with share := share }

/-- The session parameters are replaced (R181). -/
def State.replaceParams (s : State) (role : Role) (p : Params) : State :=
  let s := if s.mapLeaves role p.span then s.setGm s.gm.removeMap else s
  let s := s.setCvu (s.cvu.forRole role p.share)
  s.setSc { s.sc with role := role, params := p }

/-- SET_SESSION (R181). -/
def execSetSession (ps : List Byte) (s : State) : Answered :=
  command false 16 false ps
    (fun s =>
      if s.isIdle then
        match paramsOf ps with
        | some (role, p) => .accept (s.replaceParams role p) []
        | none => .refuse .param
      else .refuse .state) s

/-- Whether LOAD-EXTENT's position, level count and fields are in range (R59). -/
def loadable (ps : List Byte) (len : Nat) : Bool :=
  field ps 0 1 < Config.planExtents && field ps 0 1 ≤ len && levelCountAt ps 1 ≤ Config.extentLevels &&
    extentInRange (extentAt ps 1)

/-- The extent record at a position is replaced, or appended at the end (R59). -/
def putExtent (plan : List Extent) (i : Nat) (e : Extent) : List Extent :=
  if i < plan.length then plan.set i e else plan ++ [e]

/-- LOAD_EXTENT (R59). -/
def execLoadExtent (ps : List Byte) (s : State) : Answered :=
  command false 20 false ps
    (fun s =>
      if s.isIdle then
        acceptIf (loadable ps s.se.plan.length) .param
          (s.setSe { s.se with plan := putExtent s.se.plan (field ps 0 1) (extentAt ps 1) })
      else .refuse .state) s

/-- PLAN_CLEAR (R59). -/
def execPlanClear (ps : List Byte) (s : State) : Answered :=
  command false 0 false ps (fun s => acceptIf s.isIdle .state (s.setSe { s.se with plan := [] })) s

/-- Whether the fence lock allows writing, at this level of the strap line (R16). -/
def LockMode.allows (m : LockMode) (flock : Bool) : Bool :=
  match m with
  | .unlocked => true
  | .strap => !flock
  | .session => false

/-- What SET-FENCE puts into the slot: nothing with EMPTY, otherwise the record given (R12). -/
def fenceGiven (ps : List Byte) : Option Fence := if flagAt ps 7 1 then none else some (fenceAt ps 1)

/-- Whether SET-FENCE's slot and, without EMPTY, its first and length are in range (R12). -/
def fenceLoadable (ps : List Byte) : Bool :=
  field ps 0 1 < Config.fenceSlots && (flagAt ps 7 1 || fenceInRange (field ps 1 3) (field ps 4 3))

/-- SET_FENCE (R12). -/
def execSetFence (flock : Bool) (ps : List Byte) (s : State) : Answered :=
  command true 8 false ps
    (fun s =>
      if !s.isIdle then .refuse .state
      else if !s.gm.lock.allows flock then .refuse .locked
      else
        acceptIf (fenceLoadable ps) .param
          (s.setGm { s.gm with localFences := s.gm.localFences.set (field ps 0 1) (fenceGiven ps) })) s

/-- LOCK_FENCES (R17). -/
def execLockFences (ps : List Byte) (s : State) : Answered :=
  command true 1 false ps
    (fun s =>
      match lockModeOf (field ps 0 1) with
      | none => .refuse .param
      | some m =>
        if s.gm.lock = .session ∧ m = .strap then .refuse .locked else .accept (s.setGm { s.gm with lock := m }) []) s

/-! ### Opening a session -/

/-- ST at the acceptance of START (R85). -/
def St.opened (t : St) : St :=
  { t with
    txq := []
    pendingMarks := []
    mrl := []
    sendCredits := Config.bufferSlots
    mirrorSeq := 0
    newestSent := none
    keepalive := .started
    keepDue := false }

/-- CVU at the acceptance of START (R160, R162). -/
def Cvu.opened (p : Params) : Cvu :=
  { heldC := 0, record := .cleared, streak := 0, share := p.share, armed := !p.manual, attempts := 0 }

/-- SC at the acceptance of START (R126, R128). -/
def Sc.opened (c : Sc) : Sc :=
  { c with
    startFail := none
    faultReason := none
    synced := false
    unsynced := false
    session := c.session + 1
    handshake := .started
    state := .handshake }

/-- START opens the session (R128). -/
def State.openSession (s : State) : State :=
  let s := s.setSc s.sc.opened
  let s := s.setGm (s.gm.init s.sc.params.span)
  let s := s.setSt s.st.opened
  let s := s.setSe { Se.initial with plan := s.se.plan }
  let s := s.setCvu (.opened s.sc.params)
  s.appendTx (.frame (.hello s.sc.session (BitVec.ofNat 24 s.sc.params.span) 0))

/-- START (R127). -/
def execStart (ps : List Byte) (s : State) : Answered :=
  command true 0 false ps
    (fun s => acceptIf (s.sourceIn .idle && s.sc.linkUp && s.sc.params.span != 0) .state s.openSession) s

/-- LISTEN takes effect (R132). -/
def State.beginListen (s : State) : State :=
  let s := s.setSc { s.sc with synced := false, unsynced := false, faultReason := none, state := .listen }
  let s := s.setGm { s.gm.removeMap with peerFences := emptyFences }
  let s := s.setSt { s.st with returnList := [] }
  let s := s.setCvu { s.cvu with share := s.sc.params.share }
  s.judgeHead

/-- LISTEN (R132). -/
def execListen (ps : List Byte) (s : State) : Answered :=
  command true 0 false ps (fun s => acceptIf (s.targetIn .idle && s.sc.params.span != 0) .state s.beginListen) s

/-! ### Steering the sweep -/

/-- PAUSE and RESUME are taken on a SOURCE in SWEEP or RINSE, with no DETACH accepted (R76, R77, R139). -/
def State.pausable (s : State) : Bool := (s.sourceIn .sweep || s.sourceIn .rinse) && !s.sc.releasePending

/-- PAUSE (R76). -/
def execPause (ps : List Byte) (s : State) : Answered :=
  command false 0 false ps (fun s => acceptIf s.pausable .state (s.setSe { s.se with paused := true })) s

/-- The deferred test at RESUME (R77, R158). -/
def State.deferredTest (s : State) : State :=
  let s := (s.setSe { s.se with deferred := false }).cutoverTest .resume
  if s.cvu.record.eligible && s.cvu.armed then s.enterCutover else s.rinseOrWait

/-- RESUME takes effect (R77). -/
def State.resumeSweep (s : State) : State :=
  if s.se.paused then
    let s := s.setSe { s.se with paused := false }
    if s.se.deferred then s.deferredTest
    else if s.se.waiting then s.rinseOrWait
    else s
  else s

/-- RESUME (R77). -/
def execResume (ps : List Byte) (s : State) : Answered :=
  command false 0 false ps (fun s => acceptIf s.pausable .state s.resumeSweep) s

/-- SKIP is taken on a SOURCE in SWEEP, with no DETACH accepted (R63, R139). -/
def State.skippable (s : State) : Bool := s.sourceIn .sweep && !s.sc.releasePending

/-- The cursor is moved by a SKIP; the pass may end at that event (R63, R71). -/
def State.skipTo (s : State) (c : Cursor) : State :=
  if s.se.cursor.done then s else (s.setSe { s.se with cursor := c }).scanCheck

/-- A SKIP command: its state check, then what its parameter byte names (R63; log 21). -/
def skipCommand (name : Nat) (move : State → Cursor) (ps : List Byte) (s : State) : Answered :=
  command false 1 false ps
    (fun s => if s.skippable then acceptIf (field ps 0 1 == name) .param (s.skipTo (move s)) else .refuse .state) s

/-- SKIP_LEVEL (R63). -/
def execSkipLevel (ps : List Byte) (s : State) : Answered :=
  skipCommand 1 (fun s => s.se.cursor.skipLevel s.se.plan s.sc.params.span) ps s

/-- SKIP_EXTENT (R63). -/
def execSkipExtent (ps : List Byte) (s : State) : Answered :=
  skipCommand 2 (fun s => s.se.cursor.skipExtent s.se.plan s.sc.params.span) ps s

/-! ### Cutover, detach, takeover, abort -/

/-- The immediate test of a CUTOVER command (R163). -/
def State.immediateTest (s : State) : State :=
  let s := s.cutoverTest .command
  if s.cvu.record.eligible then s.enterCutover else s

/-- CUTOVER takes effect (R163). -/
def State.armCutover (s : State) : State :=
  let s := s.setCvu { s.cvu with armed := true, attempts := 0 }
  if s.se.waiting && !s.se.paused then s.immediateTest else s

/-- CUTOVER (R163). -/
def execCutover (ps : List Byte) (s : State) : Answered :=
  command true 0 false ps (fun s => acceptIf s.pausable .state s.armCutover) s

/-- DETACH takes effect (R139). SE keeps its open record until the part enters IDLE (R80). -/
def State.beginDetach (s : State) : State :=
  let s := s.setSc { s.sc with releasePending := true }
  let s := s.releaseHold
  let s := s.setSe { s.se.stopped with opened := s.se.opened }
  s.appendMark .release

/-- DETACH (R139). -/
def execDetach (ps : List Byte) (s : State) : Answered :=
  command true 0 false ps (fun s => acceptIf (s.sending && !s.sc.releasePending) .state s.beginDetach) s

/-- Whether TAKEOVER is allowed, with or without FORCE (R143). -/
def State.takeoverAllowed (s : State) (force : Bool) : Bool :=
  !s.sc.takeoverPending && (s.targetIn .shadow || (force && (s.targetIn .filling || s.targetIn .fault)))

/-- TAKEOVER takes effect (R143). -/
def State.beginTakeover (s : State) : State :=
  let s := s.setSc { s.sc with takeoverPending := true, unsynced := s.sc.unsynced || s.sc.state != .shadow }
  if s.sc.linkUp then (s.setSc { s.sc with takenWaiting := true }).pump else s.takeoverComplete

/-- TAKEOVER (R143). -/
def execTakeover (ps : List Byte) (s : State) : Answered :=
  command true 1 false ps (fun s => acceptIf (s.takeoverAllowed (flagAt ps 0 0)) .state s.beginTakeover) s

/-- ABORT takes effect (R138). -/
def State.abortSession (s : State) : State :=
  if s.isIdle then s
  else match s.sc.role with
    | .source => s.flushSource .idle
    | .target => s.endTarget
    | .none => s

/-- ABORT (R138). -/
def execAbort (ps : List Byte) (s : State) : Answered := command false 0 false ps (fun s => .accept s.abortSession []) s

/-! ### Reset commands, and a byte that names no command -/

/-- RESET_ENABLE (R189). -/
def execResetEnable (ps : List Byte) (s : State) : Answered := command false 0 true ps (fun s => .accept s []) s

/-- RESET (R189, R192). -/
def execReset (ps : List Byte) (s : State) : Answered :=
  command false 0 false ps (fun s => acceptIf s.mgp.resetEnable .state s.commandReset) s

/-- UNKNOWN (R179): refused before any other check. -/
def execUnknown (_b : Byte) (_ps : List Byte) (s : State) : Answered :=
  event s fun s => s.finish false false .unknown []

end Sys2Proof.Machine
end

