-- ==== Sys2Proof/Machine/Transmit.lean ====
section
/-! DEFINITION. ST on a SOURCE: sends, keepalives, and the CREDIT, NEED and LOSS of the TARGET (5.3 to 5.5). -/

namespace Sys2Proof.Machine

open Sys2Proof

/-- A frame is handed to the transmitter and the keepalive timer restarts (R86, R92, R100). -/
def State.sendFrame (s : State) (f : Frame) : State :=
  let s := s.setSt { s.st with keepalive := s.st.keepalive.restartIfRunning }
  s.emit (.frame f.bytes)

/-- What the send of a frame tells its maker (R86, R93, R140, R166). -/
def State.afterSend (s : State) : Frame → State
  | .mirror q _ _ _ => s.setSt { s.st with newestSent := some q }
  | .mark _ .cutoverEnd =>
    if s.sourceIn .cutover && !s.sc.releasePending then s.setSc { s.sc with awaitingReady := true } else s
  | .mark _ .release => s.detachComplete
  | _ => s

/-- The TXQ head that can be sent now: complete, with a send credit free (R86, R87). -/
def State.sendable (s : State) : Option Frame :=
  match s.st.txq with
  | e :: _ => if 0 < s.st.sendCredits then e.complete else none
  | [] => none

/-- A send of the TXQ head (R86): the head leaves, a credit is spent, the timer restarts and cancels a due KEEP (R92), the
oldest pending mark takes the place (R89); then the close that the place makes due is taken (R67; log 9). -/
def State.sendHead (s : State) (f : Frame) : State :=
  let s := s.setSt { s.st with txq := s.st.txq.tail, sendCredits := s.st.sendCredits - 1, keepDue := false }
  let s := (s.sendFrame f).appendPending
  (s.afterSend f).closeIfDue

/-- A KEEP is sent (R92). -/
def State.sendKeep (s : State) : State :=
  (s.setSt { s.st with keepDue := false }).sendFrame .keep

/-- The transmitter is ready on a SOURCE (R86, R92): the TXQ head is sent if it can be, otherwise a due KEEP. -/
def State.transmit (s : State) : State :=
  if s.transmitting && s.sc.linkUp then
    match s.sendable with
    | some f => s.sendHead f
    | none => if s.st.keepDue then s.sendKeep else s
  else s

/-- The keepalive expires on a SOURCE (R92). -/
def State.keepaliveSource (s : State) (ready : Bool) : State :=
  if ready then s.sendKeep
  else s.setSt { s.st with keepalive := { s.st.keepalive with count := s.sc.params.ki }, keepDue := true }

/-- MARK-DIRTY from ST, which stops at the acceptance of DETACH (R99). -/
def State.streamDirty (s : State) (g : Nat) : State := if s.sc.releasePending then s else s.markDirty g

/-! ### NEED and LOSS -/

/-- A NEED taken (R98, R99). -/
def State.takeNeed (s : State) (g : Nat) : State :=
  let bad := !s.sc.releasePending && (s.markOutcome g == .excluded || s.markOutcome g == .outside)
  let s := (s.count .needs).streamDirty g
  let s := if bad then s.count .protocol else s
  s.capture .need (some g) .absent

/-- The MRL records a LOSS names (R97). -/
def lossNames (e d : BitVec 16) (mrl : List MirrorRecord) : List MirrorRecord :=
  if d = 0 ∨ 32768 ≤ d.toNat then [] else mrl.filter fun r => (r.seq - e).toNat < d.toNat

/-- MARK-DIRTY for each of some records, oldest first (R97). -/
def State.dirtyRecords (s : State) : List MirrorRecord → State
  | [] => s
  | r :: rs => (s.streamDirty r.granule).dirtyRecords rs

/-- A LOSS taken (R97, R99). -/
def State.takeLoss (s : State) (e d : BitVec 16) : State :=
  let named := lossNames e d s.st.mrl
  let s := s.count .losses
  let s := if d = 0 ∨ 32768 ≤ d.toNat then s.count .protocol else s
  let s := s.dirtyRecords named
  s.capture .loss (named.head?.map (·.granule)) (.sequence e)

/-! ### CREDIT -/

/-- Whether an ack sequence names a mirror not yet made (R95). -/
def State.ackAhead (s : State) (a : BitVec 16) : Bool := (a - s.st.mirrorSeq).toNat < 32768

/-- The records an acknowledgement leaves (R95): those up to the one it names go, if it names one. -/
def ackRemove (a : BitVec 16) (mrl : List MirrorRecord) : List MirrorRecord :=
  match mrl, mrl.getLast? with
  | o :: _, some newest =>
    if (a - o.seq).toNat ≤ (newest.seq - o.seq).toNat then mrl.drop ((a - o.seq).toNat + 1) else mrl
  | _, _ => mrl

/-- The oldest records that settlement takes (R96): those at or before the newest mirror sent. -/
def settled (newest : Option (BitVec 16)) : List MirrorRecord → List MirrorRecord
  | [] => []
  | r :: rs =>
    match newest with
    | some n => if (n - r.seq).toNat ≤ 127 then r :: settled newest rs else []
    | none => []

/-- Settlement of the MRL (R96, R99). -/
def State.settle (s : State) : State :=
  match settled s.st.newestSent s.st.mrl with
  | [] => s
  | r :: rs =>
    let s := s.setSt { s.st with mrl := s.st.mrl.drop (rs.length + 1) }
    let s := (s.dirtyRecords (r :: rs)).count .losses
    s.capture .loss (some r.granule) (.sequence r.seq)

/-- A CREDIT taken (R91, R95, R96). -/
def State.takeCredit (s : State) (n : Nat) (a : BitVec 16) : State :=
  let sum := s.st.sendCredits + n
  let s := s.setSt { s.st with sendCredits := min Config.bufferSlots sum }
  let s := if Config.bufferSlots < sum then s.count .protocol else s
  if s.ackAhead a then s.count .protocol
  else
    let s := s.setSt { s.st with mrl := ackRemove a s.st.mrl }
    if s.st.sendCredits = Config.bufferSlots then s.settle else s

end Sys2Proof.Machine
end

