-- ==== Sys2Proof/Machine/Arrivals.lean ====
section
/-! DEFINITION. SR at the arrival of a frame: the CRC and form checks, and the routing by role and state (6.1, 6.3, 6.9, 7.2, 7.3,
9.3). -/

namespace Sys2Proof.Machine

open Sys2Proof

/-! ### Frames that do not pass (R104, R198) -/

/-- What the loss of a frame of this length means (R104, R198): on a receiving TARGET a lost KEEP, or a lost credit-consuming
frame; on a SOURCE in a sending state a lost answer. -/
def State.lostFrame (s : State) (len : Nat) : State :=
  if s.receiving then (if len = 3 then s else (s.raiseFreed.clearClean).pump)
  else if s.sending then s.sourceLinkLoss .answerLost
  else s

/-- A frame whose CRC does not check (R104). -/
def State.crcFailed (s : State) (bs : List Byte) : State :=
  ((s.count .discarded).capture .discard none .absent).lostFrame bs.length

/-- A malformed frame (R198). -/
def State.malformed (s : State) (bs : List Byte) : State :=
  ((s.count .discarded).capture .discard none (malformedDetail (frameBody bs))).lostFrame bs.length

/-- A good frame restarts the silent timer where it runs (R104, R106). -/
def State.restartSilent (s : State) : State :=
  if s.sr.silent.running then s.setSr { s.sr with silent := { s.sr.silent with us := 0, intervals := 0 } } else s

/-- The silent timer is started from 0 (R106). -/
def Silent.started : Silent := ⟨true, 0, 0⟩

/-! ### A TARGET -/

/-- A HELLO accepted in LISTEN (R107, R130, R133). -/
def State.acceptHello (s : State) (n : Byte) (first : BitVec 16) : State :=
  let s := s.setSc { s.sc with session := n, state := .filling }
  let s := s.setSr { s.sr with
    buffer := []
    head := none
    latch := none
    expected := first
    lastGranted := first - 1
    clean := false
    freed := 1
    creditDue := false
    failedApply := []
    lastReport := none
    silent := .started }
  let s := s.setSt { s.st with keepalive := .started }
  s.appendReturn (.reply n .accept (replyFences s.gm.localFences))

/-- A HELLO in LISTEN (R133). -/
def State.helloInListen (s : State) (f : Frame) (n : Byte) (span : BitVec 24) (first : BitVec 16) : State :=
  if Config.returnPlaces ≤ s.st.returnList.length then s.discard f
  else if span.toNat = s.sc.params.span then s.acceptHello n first
  else s.appendReturn (.reply n .refuseSpan [])

/-- A HELLO in FAULT: answered REFUSE_STATE if the return list has room, and counted as a discard in either case (R107). -/
def State.helloInFault (s : State) (f : Frame) (n : Byte) : State :=
  let s := s.discard f
  if s.st.returnList.length < Config.returnPlaces then s.appendReturn (.reply n .refuseState []) else s

/-- A frame arrives at a full receive buffer (R108). -/
def State.bufferOverflow (s : State) (f : Frame) : State :=
  let s := s.discardTarget f
  let s := s.setSr { s.sr with overflow := true }
  s.raiseFreed.pump

/-- A frame is taken into the receive buffer (R107, R108). -/
def State.enterBuffer (s : State) (f : Frame) : State :=
  if Config.bufferSlots ≤ s.sr.buffer.length then s.bufferOverflow f
  else (s.setSr { s.sr with buffer := s.sr.buffer ++ [f] }).pump

/-- A well-formed frame at a TARGET (R107). -/
def State.targetFrame (s : State) (f : Frame) : State :=
  match f with
  | .keep => s
  | _ =>
    match s.sc.state with
    | .filling | .shadow => s.enterBuffer f
    | .listen => match f with
      | .hello n sp first => s.helloInListen f n sp first
      | _ => s.discard f
    | .fault => match f with
      | .hello n _ _ => s.helloInFault f n
      | _ => s.discard f
    | _ => s.discard f

/-! ### A SOURCE -/

/-- An accepting REPLY (R130). -/
def State.replyAccepted (s : State) (fs : List WireFence) : State :=
  let s := s.loadPeer fs
  let s := s.setSc { s.sc with handshake := s.sc.handshake.stop, state := .sweep }
  let s := s.setSr { s.sr with silent := .started }
  s.startPassZero

/-- A refusing REPLY (R131). -/
def State.replyRefused (s : State) (a : ReplyAnswer) : State :=
  let s := s.setSc { s.sc with startFail := some a }
  s.endSource .idle

/-- A REPLY in HANDSHAKE with the SOURCE's session number (R130, R131). -/
def State.takeReply (s : State) (a : ReplyAnswer) (fs : List WireFence) : State :=
  match a with
  | .accept => s.replyAccepted fs
  | .refuseSpan | .refuseState => s.replyRefused a

/-- An awaited READY in CUTOVER (R167, R168, R169). -/
def State.takeReady (s : State) (ok : Bool) : State :=
  if ok && s.d == 0 then
    let s := s.releaseHold
    let s := s.setState .shadow
    let s := s.setCvu { s.cvu with attempts := 0 }
    s.raise .cutoverDone
  else
    let s := s.setSc { s.sc with awaitingReady := false }
    let s := if ok then s.appendMark .syncLost else s
    s.startScan

/-- A TAKEN taken (R145). -/
def State.takeTaken (s : State) : State := (s.flushSource .idle).raise .peerTakeover

/-- A well-formed frame at a SOURCE (R122). -/
def State.sourceFrame (s : State) (f : Frame) : State :=
  match f with
  | .keep => s
  | .reply n a fs => if s.sc.state = .handshake ∧ n = s.sc.session then s.takeReply a fs else s.discard f
  | .credit n a => if s.sending then s.takeCredit n.toNat a else s.discard f
  | .need g => if s.sending then s.takeNeed g.toNat else s.discard f
  | .loss e d => if s.sending then s.takeLoss e d else s.discard f
  | .ready n ok =>
    if n ≠ s.sc.session then s.discard f
    else if s.sc.state = .cutover ∧ s.sc.awaitingReady = true then s.takeReady ok
    else s.count .readyLate
  | .taken n => if s.sending = true ∧ n = s.sc.session then s.takeTaken else s.discard f
  | .hello .. | .opening .. | .line .. | .close .. | .mirror .. | .mark .. => s.discard f

/-- A part with no role is IDLE: KEEP has no further effect, every other frame is discarded (R107, R122). A READY that carries the part's
session number is discarded as well, as R107 gives for IDLE; R122 would count READY_LATE (R124 names both; DESIGN CHOICE, log 44). -/
def State.idleFrame (s : State) (f : Frame) : State :=
  match f with
  | .keep => s
  | _ => s.discard f

/-- A well-formed frame, by the role (R104). -/
def State.takeFrame (s : State) (f : Frame) : State :=
  match s.sc.role with
  | .source => s.sourceFrame f
  | .target => s.targetFrame f
  | .none => s.idleFrame f

/-- A whole frame arrives (R103, R104). Nothing arrives while the link is down. -/
def State.receive (s : State) (bs : List Byte) : State :=
  if !s.sc.linkUp then s
  else if !crcChecks bs then s.crcFailed bs
  else
    let s := s.restartSilent
    match parseFrame (frameBody bs) with
    | some f => s.takeFrame f
    | none => s.malformed bs

end Sys2Proof.Machine
end

