-- ==== Sys2Proof/Machine/StreamSteps.lean ====
section
/-! DEFINITION. The meanings of the stream's sends and of the timers' expiries: TXQ_SEND, RETURN_LIST_SEND, KEEPALIVE_EXPIRY,
SILENT_LIMIT_EXPIRY, HANDSHAKE_EXPIRY, HOLD_TIMER_EXPIRY; and the link loss they share with LINK_DOWN. -/

namespace Sys2Proof.Machine

open Sys2Proof

/-- After a send from the return list: the send of a TAKEN completes a pending takeover (R144), any other lets waiting claims
take the freed place (R117). -/
def State.afterReturn (s : State) (f : Frame) : State :=
  match f with
  | .taken _ => if s.sc.takeoverPending then s.takeoverComplete else s.pump
  | _ => s.pump

/-- The transmitter is ready on a TARGET (R100): the oldest frame of the return list is sent. -/
def State.sendReturn (s : State) : State :=
  if s.sc.role = .target ∧ s.sc.linkUp = true then
    match s.st.returnList with
    | f :: rest => ((s.setSt { s.st with returnList := rest }).sendFrame f).afterReturn f
    | [] => s
  else s

/-- The keepalive expires on a TARGET (R100): with the return list empty a CREDIT falls due. -/
def State.keepaliveTarget (s : State) : State :=
  let s := s.setSt { s.st with keepalive := { s.st.keepalive with count := s.sc.params.ki } }
  if s.st.returnList = [] then (s.setSr { s.sr with creditDue := true }).pump else s

/-- The keepalive timer reaches KI (R92, R100). -/
def State.keepaliveExpired (s : State) (ready : Bool) : State :=
  if s.st.keepalive.running then
    if s.transmitting then s.keepaliveSource ready
    else if s.receiving then s.keepaliveTarget
    else s
  else s

/-- Link loss on a TARGET in FILLING or SHADOW (R136), or with a takeover pending (R144). The receive buffer then drains
(R123). -/
def State.targetLinkLoss (s : State) (r : FaultReason) : State :=
  if s.sc.takeoverPending then s.takeoverComplete
  else ((s.targetFault r).raise .linkLost).pump

/-- The silent limit expires (R106, R134). -/
def State.silentExpired (s : State) : State :=
  if s.sr.silent.running then
    let s := s.setSr { s.sr with silent := { s.sr.silent with us := 0, intervals := s.sc.params.sl } }
    if s.sending then s.sourceLinkLoss .silent
    else if s.receiving then s.targetLinkLoss .silent
    else s
  else s

/-- The mate link goes down (R134). -/
def State.linkGoesDown (s : State) : State :=
  let s := s.setSc { s.sc with linkUp := false }
  if s.transmitting then s.sourceLinkLoss .linkDown
  else if s.receiving || (s.sc.role == .target && s.sc.takeoverPending) then s.targetLinkLoss .linkDown
  else s

/-- TXQ_SEND (R86). -/
def execTxqSend (s : State) : Answered := event s fun s => s.transmit

/-- RETURN_LIST_SEND (R100). -/
def execReturnListSend (s : State) : Answered := event s fun s => s.sendReturn

/-- KEEPALIVE_EXPIRY (R92). -/
def execKeepaliveExpiry (ready : Bool) (s : State) : Answered := event s fun s => s.keepaliveExpired ready

/-- SILENT_LIMIT_EXPIRY (R106). -/
def execSilentLimitExpiry (s : State) : Answered := event s fun s => s.silentExpired

/-- HANDSHAKE_EXPIRY (R129). -/
def execHandshakeExpiry (s : State) : Answered :=
  event s fun s => if s.sourceIn .handshake then s.handshakeLoss else s

/-- HOLD_TIMER_EXPIRY (R170). -/
def execHoldTimerExpiry (s : State) : Answered :=
  event s fun s => if s.sourceIn .cutover && s.sc.holdTimer.running then s.holdExpired else s

end Sys2Proof.Machine
end

