-- ==== Sys2Proof/Machine/MateLink.lean ====
section
/-! DEFINITION. The meanings of the mate link's events: LINK_UP, LINK_DOWN, FRAME_ARRIVAL. -/

namespace Sys2Proof.Machine

open Sys2Proof

/-- LINK_UP (R134). -/
def execLinkUp (s : State) : Answered := event s fun s => s.setSc { s.sc with linkUp := true }

/-- LINK_DOWN (R134). -/
def execLinkDown (s : State) : Answered := event s fun s => s.linkGoesDown

/-- FRAME_ARRIVAL (R104). -/
def execFrameArrival (bs : List Byte) (s : State) : Answered := event s fun s => s.receive bs

end Sys2Proof.Machine
end

