-- ==== Sys2Proof/Machine/ResetSteps.lean ====
section
/-! DEFINITION. The meanings of the supply's and the reset input's events: POWER_ON, POWER_ON_RELEASE, LINE_RESET,
LINE_RESET_RELEASE. -/

namespace Sys2Proof.Machine

open Sys2Proof

/-- POWER_ON (R190). -/
def execPowerOn (s : State) : Answered := .next s.powerOnReset

/-- POWER_ON_RELEASE (R190): nothing to release outside a POWER_ON reset. -/
def execPowerOnRelease (straps : BitVec 3) (s : State) : Answered :=
  .next (if s.phase = .inPowerOn then (s.setOut []).release straps else s.setOut [])

/-- LINE_RESET (R191): the reset input has no further effect in a reset. -/
def execLineReset (s : State) : Answered := event s fun s => s.lineReset

/-- LINE_RESET_RELEASE (R191): nothing to release outside a LINE reset. -/
def execLineResetRelease (straps : BitVec 3) (s : State) : Answered :=
  .next (if s.phase = .inLine then (s.setOut []).release straps else s.setOut [])

end Sys2Proof.Machine
end

