-- ==== Sys2Proof/Machine/SweepSteps.lean ====
section
/-! DEFINITION. The meanings of SE's own events: VISIT, GRANULE_CLOSE. -/

namespace Sys2Proof.Machine

open Sys2Proof

/-- VISIT (R62). -/
def execVisit (s : State) : Answered := event s fun s => s.visit

/-- GRANULE_CLOSE (R67). -/
def execGranuleClose (s : State) : Answered := event s fun s => s.closeIfDue

end Sys2Proof.Machine
end

