-- ==== Sys2Proof/Machine/TableMemory.lean ====
section
/-! DEFINITION. The meanings of the table memory link's events: CLIENT_REQUEST_ARRIVAL, ARBITRATION, MEMORY_RESPONSE. -/

namespace Sys2Proof.Machine

open Sys2Proof

/-- CLIENT_REQUEST_ARRIVAL (R21). -/
def execClientRequestArrival (r : ClientRequest) (s : State) : Answered := event s fun s => s.arrive r

/-- ARBITRATION (R36). -/
def execArbitration (s : State) : Answered := event s fun s => s.arbitrate

/-- MEMORY_RESPONSE (R33). -/
def execMemoryResponse (q : MemResponse) (s : State) : Answered := event s fun s => s.respond q

end Sys2Proof.Machine
end

