-- ==== Sys2Proof/Machine/Dispatch.lean ====
section
/-! DEFINITION. The one table from commands to their meanings. -/

namespace Sys2Proof.Machine

open Sys2Proof

/-- The effect of a command on everything but the queue. -/
def exec (i : Instr) (s : State) : Host.Outcome State Fault Refusal :=
  match i with
  | .clientRequestArrival r => Sys2Proof.Machine.execClientRequestArrival r s
  | .arbitration => Sys2Proof.Machine.execArbitration s
  | .memoryResponse q => Sys2Proof.Machine.execMemoryResponse q s
  | .visit => Sys2Proof.Machine.execVisit s
  | .granuleClose => Sys2Proof.Machine.execGranuleClose s
  | .txqSend => Sys2Proof.Machine.execTxqSend s
  | .returnListSend => Sys2Proof.Machine.execReturnListSend s
  | .keepaliveExpiry ready => Sys2Proof.Machine.execKeepaliveExpiry ready s
  | .silentLimitExpiry => Sys2Proof.Machine.execSilentLimitExpiry s
  | .handshakeExpiry => Sys2Proof.Machine.execHandshakeExpiry s
  | .holdTimerExpiry => Sys2Proof.Machine.execHoldTimerExpiry s
  | .linkUp => Sys2Proof.Machine.execLinkUp s
  | .linkDown => Sys2Proof.Machine.execLinkDown s
  | .frameArrival bs => Sys2Proof.Machine.execFrameArrival bs s
  | .status ps => Sys2Proof.Machine.execStatus ps s
  | .arm ps => Sys2Proof.Machine.execArm ps s
  | .disarm ps => Sys2Proof.Machine.execDisarm ps s
  | .setSession ps => Sys2Proof.Machine.execSetSession ps s
  | .loadExtent ps => Sys2Proof.Machine.execLoadExtent ps s
  | .planClear ps => Sys2Proof.Machine.execPlanClear ps s
  | .setFence flock ps => Sys2Proof.Machine.execSetFence flock ps s
  | .lockFences ps => Sys2Proof.Machine.execLockFences ps s
  | .start ps => Sys2Proof.Machine.execStart ps s
  | .listen ps => Sys2Proof.Machine.execListen ps s
  | .pause ps => Sys2Proof.Machine.execPause ps s
  | .resume ps => Sys2Proof.Machine.execResume ps s
  | .skipLevel ps => Sys2Proof.Machine.execSkipLevel ps s
  | .skipExtent ps => Sys2Proof.Machine.execSkipExtent ps s
  | .cutover ps => Sys2Proof.Machine.execCutover ps s
  | .detach ps => Sys2Proof.Machine.execDetach ps s
  | .takeover ps => Sys2Proof.Machine.execTakeover ps s
  | .abort ps => Sys2Proof.Machine.execAbort ps s
  | .setShare ps => Sys2Proof.Machine.execSetShare ps s
  | .readCursor ps => Sys2Proof.Machine.execReadCursor ps s
  | .readPass ps => Sys2Proof.Machine.execReadPass ps s
  | .readMap ps => Sys2Proof.Machine.execReadMap ps s
  | .readEvent ps => Sys2Proof.Machine.execReadEvent ps s
  | .ackAlerts ps => Sys2Proof.Machine.execAckAlerts ps s
  | .setMask ps => Sys2Proof.Machine.execSetMask ps s
  | .clearCounters ps => Sys2Proof.Machine.execClearCounters ps s
  | .resetEnable ps => Sys2Proof.Machine.execResetEnable ps s
  | .reset ps => Sys2Proof.Machine.execReset ps s
  | .unknown b ps => Sys2Proof.Machine.execUnknown b ps s
  | .powerOn => Sys2Proof.Machine.execPowerOn s
  | .powerOnRelease straps => Sys2Proof.Machine.execPowerOnRelease straps s
  | .lineReset => Sys2Proof.Machine.execLineReset s
  | .lineResetRelease straps => Sys2Proof.Machine.execLineResetRelease straps s

end Sys2Proof.Machine
end

