-- ==== Sys2Proof/Machine/Time.lean ====
section
/-! DEFINITION. One tick of the timebase: the µs timers that run count (R75, R92, R106, R129, R165, R195; log 2). A timer stands at
its limit until its expiry, which is a command of the table (log 3). -/

namespace Sys2Proof.Machine

open Sys2Proof

/-- A timer counts one µs, up to its limit. -/
def Timer.tick (t : Timer) (limit : Nat) : Timer := if t.running then { t with count := min limit (t.count + 1) } else t

/-- The silent timer counts one µs; each KI µs without a good frame raises the interval count, up to SL (R106). -/
def Silent.tick (t : Silent) (ki sl : Nat) : Silent :=
  if t.running then
    if ki ≤ t.us + 1 then { t with us := 0, intervals := min sl (t.intervals + 1) } else { t with us := t.us + 1 }
  else t

/-- The pass timer counts while a pass runs and PAUSED is clear, not in the final scan (R75). -/
def State.passTiming (s : State) : Bool := (s.sourceIn .sweep || s.sourceIn .rinse) && s.se.running && !s.se.paused

/-- One µs passes: the step of an empty queue. In a reset no timer runs (R190, R191). -/
def State.tick (s : State) : State :=
  if s.phase = .running then
    let s := s.setOut []
    let s := if s.passTiming then s.setSe { s.se with passTimer := satSucc Config.max24 s.se.passTimer } else s
    let s := s.setSt { s.st with keepalive := s.st.keepalive.tick s.sc.params.ki }
    let s := s.setSr { s.sr with silent := s.sr.silent.tick s.sc.params.ki s.sc.params.sl }
    s.setSc { s.sc with
      handshake := s.sc.handshake.tick Config.handshakeLimit
      holdTimer := s.sc.holdTimer.tick s.sc.params.hLimit }
  else s.setOut []

end Sys2Proof.Machine
end

