-- ==== Sys2Proof/Safety.lean ====
section
/-! DEFINITION. What a sound state of the part is: the invariants the spec states, and the words in which claims name commands
and what a command leaves. -/

namespace Sys2Proof

/-- A command of the management line. -/
def Instr.managed (i : Instr) : Bool := i.toWrite.isSome

/-- A guarded command: one that needs the arm latch and clears it (10.2). -/
def Instr.guarded : Instr → Bool
  | .setFence .. | .lockFences _ | .start _ | .listen _ | .cutover _ | .detach _ | .takeover _ => true
  | _ => false

/-- The parameter bytes a command of the management line carries, with the number its format calls for (R199). -/
def Instr.layout : Instr → Option (List Byte × Nat)
  | .status ps | .arm ps | .disarm ps | .planClear ps | .start ps | .listen ps | .pause ps | .resume ps | .cutover ps
  | .detach ps | .abort ps | .readCursor ps | .readPass ps | .readEvent ps | .clearCounters ps | .resetEnable ps
  | .reset ps => some (ps, 0)
  | .setSession ps => some (ps, 16)
  | .loadExtent ps => some (ps, 20)
  | .setFence _ ps => some (ps, 8)
  | .lockFences ps | .skipLevel ps | .skipExtent ps | .takeover ps | .setShare ps => some (ps, 1)
  | .readMap ps => some (ps, 3)
  | .ackAlerts ps | .setMask ps => some (ps, 2)
  | .unknown .. | .clientRequestArrival _ | .arbitration | .memoryResponse _ | .visit | .granuleClose | .txqSend
  | .returnListSend | .keepaliveExpiry _ | .silentLimitExpiry | .handshakeExpiry | .holdTimerExpiry | .linkUp | .linkDown
  | .frameArrival _ | .powerOn | .powerOnRelease _ | .lineReset | .lineResetRelease _ => none

/-- The commands that a part in a reset still takes: the rise of the supply and the releases (R190, R191). -/
def Instr.takenInReset : Instr → Bool
  | .powerOn | .powerOnRelease _ | .lineResetRelease _ => true
  | _ => false

end Sys2Proof

namespace Sys2Proof.Machine

open Sys2Proof

/-! ### What a management command leaves -/

/-- A state with the reply of a command written and nothing else changed (R177, R179, R180, R189). -/
def State.replying (s : State) (guarded enable : Bool) (code : ResultCode) (data : List Byte) : State :=
  { s with
    out := []
    mgp := { s.mgp with
      armLatch := s.mgp.armLatch && !guarded
      resetEnable := enable
      reply := ⟨code, data⟩
      lastResult := code } }

/-- The event record after a capture (R183). -/
def State.captured (s : State) (kind : EventKind) (granule : Option Nat) (detail : Detail) : EventRecord :=
  ⟨kind, granule, detail, s.eventPass, true, s.mgp.event.overrun || s.mgp.event.unread⟩

/-- The head of the ingress queue is a write that a fenced TARGET refuses (R28). -/
def State.headRefused (s : State) : Bool :=
  s.fencing && match s.cp.queue with
    | .write _ a _ _ :: _ => !s.localCovers (granuleOf a.toNat)
    | _ => false

/-- What a frame whose CRC checks leaves before it is acted on: the silent timer restarts where it runs (R104, R106). -/
def State.heard (s : State) : State :=
  { s with
    out := []
    sr := { s.sr with silent := if s.sr.silent.running then ⟨true, 0, 0⟩ else s.sr.silent } }

/-- The request records once their data or status is to be dropped: client records stand (R41, R81, R115). -/
def State.droppedTable (s : State) : List MemRecord :=
  s.mp.table.map fun r =>
    match r.owner with
    | .client => r
    | .sweep _ => { r with owner := .sweep none }
    | .apply g _ => { r with owner := .apply g false }

/-- A SOURCE that has left its session for IDLE or FAULT (R135, R146): hold released, queues and MRL emptied, the open record
dropped, the flags cleared, the timers stopped; the map, the census and every other field stand. -/
def State.leftSource (s : State) (x : SessionState) (newest : Option (BitVec 16)) : State :=
  { s with
    cp := { s.cp with hold := false }
    mp := { s.mp with table := s.droppedTable }
    se := { s.se with opened := none, running := false, waiting := false, paused := false, deferred := false }
    st := { s.st with
      txq := []
      pendingMarks := []
      mrl := []
      newestSent := newest
      keepalive := ⟨false, s.st.keepalive.count⟩
      keepDue := false }
    sr := { s.sr with silent := { s.sr.silent with running := false } }
    sc := { s.sc with
      state := x
      releasePending := false
      takeoverPending := false
      takenWaiting := false
      handshake := ⟨false, s.sc.handshake.count⟩
      holdTimer := ⟨false, s.sc.holdTimer.count⟩
      awaitingReady := false } }

/-- A TARGET that has entered IDLE (R146): buffer, latch, failed-apply list and return list emptied, the freed count 0, the
timers stopped; E, the last mirror granted and the last pass report stand. -/
def State.leftTarget (s : State) : State :=
  { s with
    mp := { s.mp with table := s.droppedTable }
    st := { s.st with returnList := [], keepalive := ⟨false, s.st.keepalive.count⟩ }
    sr := { s.sr with
      buffer := []
      head := none
      latch := none
      freed := 0
      creditDue := false
      failedApply := []
      silent := { s.sr.silent with running := false } }
    sc := { s.sc with
      state := .idle
      releasePending := false
      takeoverPending := false
      takenWaiting := false
      handshake := ⟨false, s.sc.handshake.count⟩
      holdTimer := ⟨false, s.sc.holdTimer.count⟩
      awaitingReady := false } }

/-- A TARGET in FILLING or SHADOW that has nothing waiting: buffer, head, failed-apply list and claims empty, places left in the
return list, and no CREDIT about to fall due (R108, R117). -/
def State.listening (s : State) : Prop :=
  s.phase = .running ∧ s.sc.linkUp = true ∧ s.receiving = true ∧ s.sr.buffer = [] ∧ s.sr.head = none ∧
  s.sr.failedApply = [] ∧ s.sr.creditDue = false ∧ s.sc.takenWaiting = false ∧ s.sr.freed < 7 ∧
  s.st.returnList.length < 15

/-! ### What the map and a pass end leave -/

/-- GM after a COPIED granule has become DIRTY: the entry, the census, and N_d; between passes, with SE WAITING or DEFERRED, the count
toward the next pass in its place (R7, R9, R10, R150; log 38). -/
def State.gmDirtied (s : State) (g : Nat) : Gm :=
  let between := s.se.waiting || s.se.deferred
  { s.gm with
    map := s.gm.map.map (·.set g .dirty)
    census := { s.gm.census with copied := s.gm.census.copied - 1, dirty := s.gm.census.dirty + 1 }
    nd := if between then s.gm.nd else min 16777215 (s.gm.nd + 1)
    ndNext := if between then min 16777215 (s.gm.ndNext + 1) else s.gm.ndNext }

/-- GM after the close of an open record by the table of R6, for an entry that is UNCOPIED or DIRTY (R9, R10). -/
def State.gmClosed (s : State) (r : OpenRecord) : Gm :=
  if r.stale = false then { s.gm with
    map := s.gm.map.map (·.set r.granule .copied)
    census := if s.entry r.granule = some .uncopied
      then { s.gm.census with uncopied := s.gm.census.uncopied - 1, copied := s.gm.census.copied + 1 }
      else { s.gm.census with dirty := s.gm.census.dirty - 1, copied := s.gm.census.copied + 1 }
    nc := min 16777215 (s.gm.nc + 1) }
  else if s.entry r.granule = some .uncopied then { s.gm with
    map := s.gm.map.map (·.set r.granule .dirty)
    census := { s.gm.census with uncopied := s.gm.census.uncopied - 1, dirty := s.gm.census.dirty + 1 } }
  else s.gm

/-- SE as a rinse pass starts (R72). -/
def State.seRinsing (s : State) : Se := { s.se with running := true, waiting := false, scanIdx := 0, passTimer := 0 }

/-- What the end of a pass leaves of the state it is taken in, where the TXQ has room for its marks below TXQ_HIGH: the PASS_END mark, the
pass record with its rates, streak and share, the alerts and the next pass number; then DEFERRED while PAUSED, otherwise CUTOVER with
its mark, hold and final scan, a rinse pass, or WAITING (R73, R75, R78, R150 to R159, R164). -/
def State.passEnded (s : State) : State :=
  let t := max 1 s.se.passTimer
  let nd := min 16777215 (s.gm.nd + s.gm.ndNext)
  let c := if s.gm.nc = 0 then s.cvu.heldC else min 65535 (s.gm.nc * 1024 / t)
  let r := min 65535 (nd * 1024 / t)
  let conv := decide (r < c)
  let third := !conv && decide (2 ≤ s.cvu.streak)
  let streak := if conv || third then 0 else s.cvu.streak + 1
  let ok := eligibleFor s.sc.params c s.d
  let cutover := !s.se.paused && ok && s.cvu.armed
  let rinse := !s.se.paused && !cutover && decide (0 < s.d)
  let mark (k : MarkKind) : TxEntry := .frame (.mark s.sc.session k)
  { s with
    cp := { s.cp with hold := s.cp.hold || cutover }
    gm := { s.gm with
      nc := if rinse then 0 else s.gm.nc
      nd := if rinse then 0 else s.gm.nd
      ndNext := 0 }
    se := { s.se with
      passNo := min 65535 (s.se.passNo + 1)
      passTimer := if rinse then 0 else s.se.passTimer
      scanIdx := if cutover || rinse then 0 else s.se.scanIdx
      running := rinse || (cutover && decide (0 < s.d))
      waiting := if s.se.paused then s.se.waiting else !cutover && !rinse
      deferred := s.se.deferred || s.se.paused }
    st := { s.st with
      txq := s.st.txq ++ mark (.passEnd (BitVec.ofNat 16 s.se.passNo) (BitVec.ofNat 24 s.d)) ::
        ((if cutover then [mark (.cutoverBegin (BitVec.ofNat 8 (s.cvu.attempts + 1)))] else []) ++
          if cutover && decide (s.d = 0) then [mark .cutoverEnd] else []) }
    sc := { s.sc with
      state := if cutover then .cutover else .rinse
      holdTimer := if cutover then ⟨true, 0⟩ else s.sc.holdTimer }
    cvu := { s.cvu with
      heldC := c
      streak := streak
      share := if third && decide (s.cvu.share < 15) then s.cvu.share + 1 else s.cvu.share
      attempts := if cutover then s.cvu.attempts + 1 else s.cvu.attempts
      record := {
        valid := true
        passNo := s.se.passNo
        t := t
        nc := s.gm.nc
        nd := nd
        d := s.d
        c := c
        cHeld := decide (s.gm.nc = 0)
        r := r
        h := predictedHold s.d c s.sc.params.qAllow
        eligible := ok
        converging := conv
        streak := streak
        point := if s.se.paused then .deferred else .passEnd } }
    au := { s.au with
      latch := s.au.latch ||| 0x001#12 ||| (if ok then 0x002#12 else 0) ||| (if third then 0x020#12 else 0) } }

/-- The answers that a SOURCE in a sending state discards: every REPLY, and a READY or TAKEN of another session (R122). -/
def Frame.unwantedBySender (session : Byte) : Frame → Bool
  | .reply .. => true
  | .ready n _ => n != session
  | .taken n => n != session
  | .hello .. | .opening .. | .line .. | .close .. | .mirror .. | .mark .. | .keep | .credit .. | .need .. | .loss .. => false

/-- The frames that only a SOURCE sends (R122). -/
def Frame.fromSource : Frame → Bool
  | .hello .. | .opening .. | .line .. | .close .. | .mirror .. | .mark .. => true
  | .keep | .reply .. | .credit .. | .need .. | .loss .. | .ready .. | .taken .. => false

/-! ### Invariants -/

/-- The arbiter credit and both shares stay in their ranges (R37, R156). -/
def SharesInRange (s : State) : Prop :=
  s.mp.k ≤ 15 ∧ 1 ≤ s.cvu.share ∧ s.cvu.share ≤ 15 ∧ 1 ≤ s.sc.params.share ∧ s.sc.params.share ≤ 15

/-- The client's credits and the requests in the ingress queue add up to 32 while the part runs; in a reset there are
neither (R24, R25, R38). -/
def ClientCreditsBalance (s : State) : Prop :=
  if s.phase = .running then s.cp.credits + s.cp.queue.length = 32 else s.cp.credits = 0 ∧ s.cp.queue = []

/-- The class of a record goes with its tag (R30). -/
def MemRecord.tagged (r : MemRecord) : Bool :=
  match r.owner with
  | .client => r.tag < 64
  | _ => 64 ≤ r.tag && r.tag < 80

/-- The tags in use: those of the ingress queue, then those of the request table (R23, R30). -/
def State.tagsInUse (s : State) : List Nat := s.cp.queue.map ClientRequest.tagNo ++ s.mp.table.map MemRecord.tag

/-- Every record holds a memory-side credit, every tag is in use at most once and goes with its class (R23, R29, R30). -/
def RequestTableSound (s : State) : Prop :=
  s.mp.credits + s.mp.table.length = 48 ∧ s.tagsInUse.Nodup ∧ ∀ r ∈ s.mp.table, r.tagged = true

/-- The map has the session's span and the census counts it; without a map the census is zero (R2, R4, R9). -/
def CensusLevel (s : State) : Prop :=
  match s.gm.map with
  | some m => m.length = s.sc.params.span ∧ s.gm.census = censusOf m
  | none => s.gm.census = .zero

/-- The session state is one the role can reach (7.1). -/
def StateFitsRole (s : State) : Prop :=
  match s.sc.role, s.sc.state with
  | _, .idle => True
  | .source, .handshake | .source, .sweep | .source, .rinse | .source, .cutover | .source, .shadow | .source, .fault => True
  | .target, .listen | .target, .filling | .target, .shadow | .target, .fault => True
  | _, _ => False

/-- A SOURCE in CUTOVER before DETACH is accepted (R165). -/
def State.holding (s : State) : Bool := s.sourceIn .cutover && !s.sc.releasePending

/-- Hold and the timers run exactly in their states; a READY is awaited only in a hold; RELEASE_PENDING stands only in a
sending state (R26, R92, R106, R125, R129, R165, R166). -/
def ClocksFollowState (s : State) : Prop :=
  s.cp.hold = s.holding ∧ s.sc.holdTimer.running = s.holding ∧
  s.sc.handshake.running = s.sourceIn .handshake ∧
  s.sr.silent.running = (s.sending || s.receiving) ∧
  s.st.keepalive.running = (s.transmitting || s.receiving) ∧
  (s.sc.awaitingReady = true → s.holding = true) ∧
  (s.sc.releasePending = true → s.sending = true)

/-- SYNCED stands only in IDLE and never with UNSYNCED_TAKEOVER (R147). -/
def SyncedAlone (s : State) : Prop := s.sc.synced = true → s.sc.state = .idle ∧ s.sc.unsynced = false

/-- CVU of a TARGET keeps nothing of an earlier session as a SOURCE but its record, which READ_PASS does not show there: held C, streak
and attempt count 0, cutover not armed; its share in use is the share parameter (R149, R159; log 43). -/
def ConvergenceClearOnTarget (s : State) : Prop :=
  s.sc.role = .target → s.cvu = { State.reset.cvu with share := s.sc.params.share, record := s.cvu.record }

/-- The lists and counts that the spec bounds stay in their bounds; a mark is pending only behind a full TXQ
(R25, R84, R89, R91, R94, R100, R108, R116). -/
def ListsInBounds (s : State) : Prop :=
  s.cp.queue.length ≤ 32 ∧ s.st.txq.length ≤ 64 ∧ s.st.pendingMarks.length ≤ 8 ∧
  (s.st.pendingMarks ≠ [] → s.st.txq.length = 64) ∧ s.st.mrl.length ≤ 128 ∧ s.st.returnList.length ≤ 16 ∧
  s.st.sendCredits ≤ 32 ∧ s.sr.buffer.length ≤ 32 ∧ s.sr.freed ≤ 32

/-- The records of the MRL carry consecutive sequences that end at the counter less one (R94). -/
def MrlConsecutive (s : State) : Prop :=
  ∀ i (h : i < s.st.mrl.length), s.st.mrl[i].seq = s.st.mirrorSeq - BitVec.ofNat 16 (s.st.mrl.length - i)

/-- The open granule's entry is UNCOPIED or DIRTY, no granule is open before pass 0, and a SOURCE in SHADOW has none open and
D at 0 (R5, R9, R173). -/
def ShadowLevel (s : State) : Prop :=
  CensusLevel s ∧
  (∀ r, s.se.opened = some r → s.entry r.granule = some .uncopied ∨ s.entry r.granule = some .dirty) ∧
  (s.se.opened ≠ none → s.sweeping = true ∨ s.sending = true ∧ s.sc.releasePending = true) ∧
  (s.sourceIn .shadow = true → s.d = 0 ∧ s.se.opened = none)

/-- A write at the head of the ingress queue of a fenced TARGET has been judged and stands (R28). -/
def HeadJudged (s : State) : Prop := s.headRefused = false

end Sys2Proof.Machine
end

