-- ==== Sys2Proof/Certificates/Slice0/Obligations.lean ====
section
/-! DEFINITION. The statements for the provers. Each docstring names the rules a statement formalises. -/

open Sys2Proof Sys2Proof.Machine

/-! ### The step -/

/-- A step takes the command at the front of the queue, runs its meaning with the queue's rest, and nothing else (log 1). -/
def Obligations.StepRunsFrontCommand : Prop :=
  ∀ (c : Instr) (rest : List Instr) (s : State), step (s.setPending (c :: rest)) = exec c (s.setPending rest)

/-- With no command waiting one µs passes: the timers that run count up to their limits and everything else stands; in a reset
no timer counts (R75, R92, R106, R129, R165; the model's choice, log 2). -/
def Obligations.IdleStepCountsOneMicrosecond : Prop :=
  ∀ s : State, s.pending = [] →
    (s.phase = .running → step s = .next { s with
      out := []
      se := { s.se with
        passTimer :=
          if s.sc.role = .source ∧ (s.sc.state = .sweep ∨ s.sc.state = .rinse) ∧ s.se.running = true ∧
              s.se.paused = false then
            min 16777215 (s.se.passTimer + 1)
          else s.se.passTimer }
      st := { s.st with
        keepalive := ⟨s.st.keepalive.running,
          if s.st.keepalive.running then min s.sc.params.ki (s.st.keepalive.count + 1) else s.st.keepalive.count⟩ }
      sr := { s.sr with
        silent :=
          if s.sr.silent.running = false then s.sr.silent
          else if s.sr.silent.us + 1 < s.sc.params.ki then ⟨true, s.sr.silent.us + 1, s.sr.silent.intervals⟩
          else ⟨true, 0, min s.sc.params.sl (s.sr.silent.intervals + 1)⟩ }
      sc := { s.sc with
        handshake := ⟨s.sc.handshake.running,
          if s.sc.handshake.running then min 10000 (s.sc.handshake.count + 1) else s.sc.handshake.count⟩
        holdTimer := ⟨s.sc.holdTimer.running,
          if s.sc.holdTimer.running then min s.sc.params.hLimit (s.sc.holdTimer.count + 1)
          else s.sc.holdTimer.count⟩ } }) ∧
    (s.phase ≠ .running → step s = .next { s with out := [] })

/-- Every command answers a next state, whatever the state, and leaves the model's own queue of waiting commands as it was: the step
alone takes from it, and a reset keeps it (the model's choice, log 1 and log 37). -/
def Obligations.EveryCommandCompletes : Prop :=
  ∀ (c : Instr) (s : State), ∃ t, exec c s = .next t ∧ t.pending = s.pending

/-! ### Client requests -/

/-- CLIENT_REQUEST_ARRIVAL. With room and a free tag the request joins the tail of the ingress queue and spends a credit, and no
other unit changes, where the head it leaves is not one that a fenced TARGET refuses. At a full queue PROTOCOL is counted and
nothing else; under a tag in use the credit is returned at once and PROTOCOL counted; neither gets a response
(R21, R23, R24, R25). -/
def Obligations.ClientArrival : Prop :=
  ∀ (r : ClientRequest) (s : State), s.phase = .running →
    (s.cp.queue.length < 32 → r.tagNo ∉ s.tagsInUse →
      (s.setCp { s.cp with queue := s.cp.queue ++ [r] }).headRefused = false →
      exec (.clientRequestArrival r) s = .next { s with
        out := []
        cp := { s.cp with queue := s.cp.queue ++ [r], credits := s.cp.credits - 1 } }) ∧
    (32 ≤ s.cp.queue.length →
      exec (.clientRequestArrival r) s = .next { s with
        out := []
        mgp := { s.mgp with
          counters := { s.mgp.counters with protocol := min 16777215 (s.mgp.counters.protocol + 1) } } }) ∧
    (s.cp.queue.length < 32 → 1 ≤ s.cp.credits → r.tagNo ∈ s.tagsInUse →
      exec (.clientRequestArrival r) s = .next { s with
        out := [.clientCredits 1]
        mgp := { s.mgp with
          counters := { s.mgp.counters with protocol := min 16777215 (s.mgp.counters.protocol + 1) } } })

/-- A fence table covers a granule of the image exactly when one of its records does: inside the record's run, or outside it with invert
(R11). A write that becomes the head on a fenced TARGET outside its fences is refused at that event: DONE(REFUSED), the credit back,
REFUSED_WRITES and the REFUSED_WRITE event; no other unit changes. Stated at the arrival at an empty queue, at the grant of the
request before it, and at the acceptance of LISTEN, where the write behind it is not refused as well (R28). -/
def Obligations.UncoveredWriteRefused : Prop :=
  (∀ (span g : Nat) (slots : List (Option Fence)),
    fencesCover span slots g = true ↔
      g < span ∧ ∃ f, some f ∈ slots ∧ ((f.first ≤ g ∧ g < f.first + f.length) ↔ f.invert = false)) ∧
  (∀ (tag : Fin 64) (a : LineAddr) (m : ByteMask) (d : LineData) (rest : List ClientRequest) (s : State),
    s.phase = .running → s.localCovers (a.toNat / 1024) = false →
    let refused : Mgp := { s.mgp with
      counters := { s.mgp.counters with refusedWrites := min 16777215 (s.mgp.counters.refusedWrites + 1) }
      event := s.captured .refusedWrite (some (a.toNat / 1024)) (.lineAddr a.toNat) }
    (s.fencing = true → s.cp.queue = [] → 1 ≤ s.cp.credits → tag.val ∉ s.tagsInUse →
      exec (.clientRequestArrival (.write tag a m d)) s = .next { s with
        out := [.clientResponse tag.val .doneRefused, .clientCredits 1]
        mgp := refused }) ∧
    (∀ r : ClientRequest, s.fencing = true → 0 < s.mp.credits → s.cp.queue = r :: .write tag a m d :: rest →
      s.cp.hold = false → s.ownReady = none → (s.setCp { s.cp with queue := rest }).headRefused = false →
      exec .arbitration s = .next { s with
        out := [.clientCredits 1, .memRequest r.tagNo r.toMemory, .clientResponse tag.val .doneRefused, .clientCredits 1]
        cp := { s.cp with queue := rest, credits := s.cp.credits + 2 }
        mp := { s.mp with credits := s.mp.credits - 1, table := s.mp.table ++ [⟨r.tagNo, .client, r.kind, r.line⟩] }
        mgp := refused }) ∧
    (s.mgp.armLatch = true → s.sc.role = .target → s.sc.state = .idle → s.sc.params.span ≠ 0 →
      s.cp.queue = .write tag a m d :: rest →
      ((s.setCp { s.cp with queue := rest }).setSc { s.sc with state := .listen }).headRefused = false →
      exec (.listen []) s = .next { s with
        out := [.clientResponse tag.val .doneRefused, .clientCredits 1]
        cp := { s.cp with queue := rest, credits := s.cp.credits + 1 }
        gm := { s.gm with map := none, census := ⟨0, 0, 0, 0⟩, peerFences := List.replicate 8 none }
        st := { s.st with returnList := [] }
        sc := { s.sc with synced := false, unsynced := false, faultReason := none, state := .listen }
        cvu := { s.cvu with share := s.sc.params.share }
        mgp := { refused with armLatch := false, resetEnable := false, reply := ⟨.ok, []⟩, lastResult := .ok } }))

/-! ### Arbitration -/

/-- ARBITRATION with only the CLIENT class ready: the head request leaves the queue, a credit goes back to the client, a record is
made, a memory-side credit is spent, and K stands; for requests that WCU does not act on (R31, R36). Shadow stall holds back a head
write to a granule in the image and not EXCLUDED, on a SOURCE in SHADOW under STALL, while the TXQ or the MRL is full; a head under
hold or shadow stall is not granted, and only an own request can be (R26, R27, R50). That the shadow stall does not end at a DETACH
is DEDUCED (log 22). -/
def Obligations.ClientGrant : Prop :=
  (∀ (r : ClientRequest) (rest : List ClientRequest) (s : State),
    s.phase = .running → 0 < s.mp.credits → s.cp.queue = r :: rest → s.cp.hold = false → s.shadowStall = false →
    s.ownReady = none → (r.kind = .read ∨ s.captureActs = false) →
    (s.setCp { s.cp with queue := rest }).headRefused = false →
    exec .arbitration s = .next { s with
      out := [.clientCredits 1, .memRequest r.tagNo r.toMemory]
      cp := { s.cp with queue := rest, credits := s.cp.credits + 1 }
      mp := { s.mp with credits := s.mp.credits - 1, table := s.mp.table ++ [⟨r.tagNo, .client, r.kind, r.line⟩] } }) ∧
  (∀ s : State,
    (s.shadowStall = true ↔ s.sc.role = .source ∧ s.sc.state = .shadow ∧ s.sc.params.stall = true ∧
      (∃ tag a m d rest x, s.cp.queue = .write tag a m d :: rest ∧ s.entry (a.toNat / 1024) = some x ∧ x ≠ .excluded) ∧
      (64 ≤ s.st.txq.length ∨ 128 ≤ s.st.mrl.length)) ∧
    (s.phase = .running → s.cp.hold = true ∨ s.shadowStall = true →
      (s.ownReady = none → exec .arbitration s = .next { s with out := [] }) ∧
      ∃ u, exec .arbitration s = .next u ∧ u.cp.queue = s.cp.queue ∧ u.cp.credits = s.cp.credits ∧ u.mp.k = s.mp.k ∧
        ∀ tag q, .memRequest tag q ∈ u.out → 64 ≤ tag))

/-- The grant of a client write on a SOURCE that captures. Classed PASS or SWEEP-CARRIED nothing more happens; classed MIRROR with room,
a MIRROR and its MRL record are made and the counter rises, with TXQ_HIGH at the 63rd entry; classed MIRROR without room it is degraded:
no mirror is made, DEGRADED rises, a DEGRADE event is captured, and the granule is dirtied if it was COPIED and not open, or the open
record marked stale (R43, R46, R48, R49, R90). The dirtied granule wakes a WAITING SOURCE that is not PAUSED if D was 0 (R10, R74), and
in SHADOW, where the policy is DEGRADE, it raises SYNC_LOST, whose mark is pending at a full TXQ and dropped with DISCARDED where 8 are
pending (R18, R50, R89, R174); that the event record then shows the DEGRADE, the later of the two, is DEDUCED (log 26). That a
transition between passes counts toward the next one in a count of its own is DEDUCED (R150; log 38). -/
def Obligations.CapturedWriteGrant : Prop :=
  (∀ (tag : Fin 64) (a : LineAddr) (m : ByteMask) (d : LineData) (rest : List ClientRequest) (s : State),
    s.phase = .running → 0 < s.mp.credits → s.cp.queue = .write tag a m d :: rest → s.cp.hold = false →
    s.shadowStall = false → s.ownReady = none → s.captureActs = true →
    (s.entry (a.toNat / 1024) = none ∨ s.entry (a.toNat / 1024) = some .excluded ∨
      (s.entry (a.toNat / 1024) ≠ some .copied ∧ s.isOpen (a.toNat / 1024) = false) →
      exec .arbitration s = .next { s with
        out := [.clientCredits 1, .memRequest tag.val (.write a m d)]
        cp := { s.cp with queue := rest, credits := s.cp.credits + 1 }
        mp := { s.mp with credits := s.mp.credits - 1, table := s.mp.table ++ [⟨tag.val, .client, .write, a⟩] } }) ∧
    (s.entry (a.toNat / 1024) = some .copied ∨
      (s.isOpen (a.toNat / 1024) = true ∧
        (s.entry (a.toNat / 1024) = some .uncopied ∨ s.entry (a.toNat / 1024) = some .dirty)) →
      s.st.txq.length < 64 → s.st.mrl.length < 128 →
      exec .arbitration s = .next { s with
        out := [.clientCredits 1, .memRequest tag.val (.write a m d)]
        cp := { s.cp with queue := rest, credits := s.cp.credits + 1 }
        mp := { s.mp with credits := s.mp.credits - 1, table := s.mp.table ++ [⟨tag.val, .client, .write, a⟩] }
        st := { s.st with
          txq := s.st.txq ++ [.frame (.mirror s.st.mirrorSeq (a.setWidth 32) m d)]
          mrl := s.st.mrl ++ [⟨s.st.mirrorSeq, a.toNat / 1024⟩]
          mirrorSeq := s.st.mirrorSeq + 1 }
        au := { s.au with latch := if s.st.txq.length = 62 then s.au.latch ||| 0x080#12 else s.au.latch } })) ∧
  (∀ (tag : Fin 64) (a : LineAddr) (m : ByteMask) (d : LineData) (rest : List ClientRequest) (s : State),
    s.phase = .running → 0 < s.mp.credits → s.cp.queue = .write tag a m d :: rest → s.cp.hold = false →
    s.shadowStall = false → s.ownReady = none → s.captureActs = true → (64 ≤ s.st.txq.length ∨ 128 ≤ s.st.mrl.length) →
    let g := a.toNat / 1024
    let u : State := { s with
      out := [.clientCredits 1, .memRequest tag.val (.write a m d)]
      cp := { s.cp with queue := rest, credits := s.cp.credits + 1 }
      mp := { s.mp with credits := s.mp.credits - 1, table := s.mp.table ++ [⟨tag.val, .client, .write, a⟩] }
      mgp := { s.mgp with
        counters := { s.mgp.counters with degraded := min 16777215 (s.mgp.counters.degraded + 1) }
        event := s.captured .degrade (some g) (.lineAddr a.toNat) } }
    let lost : State := { u with
      gm := { s.gmDirtied g with nc := 0, nd := 0, ndNext := 0 }
      se := s.seRinsing
      sc := { s.sc with state := .rinse }
      cvu := { s.cvu with attempts := 0 }
      au := { s.au with latch := s.au.latch ||| 0x040#12 } }
    (s.isOpen g = true → (s.entry g = some .uncopied ∨ s.entry g = some .dirty) →
      exec .arbitration s = .next { u with
        se := { s.se with opened := s.se.opened.map fun o => { o with stale := true } } }) ∧
    (s.isOpen g = false → s.entry g = some .copied →
      (s.sc.state ≠ .shadow → (s.d = 0 → s.se.waiting = false ∨ s.se.paused = true) →
        exec .arbitration s = .next { u with gm := s.gmDirtied g }) ∧
      (s.sc.state ≠ .shadow → s.d = 0 → s.se.waiting = true → s.se.paused = false →
        exec .arbitration s = .next { u with gm := { s.gmDirtied g with nc := 0, nd := 0 }, se := s.seRinsing }) ∧
      (s.sc.state = .shadow → s.st.txq.length < 62 → s.st.pendingMarks = [] →
        exec .arbitration s = .next { lost with
          st := { s.st with txq := s.st.txq ++ [.frame (.mark s.sc.session .syncLost)] } }) ∧
      (s.sc.state = .shadow → 64 ≤ s.st.txq.length → s.st.pendingMarks.length < 8 →
        exec .arbitration s = .next { lost with
          st := { s.st with pendingMarks := s.st.pendingMarks ++ [⟨s.sc.session, .syncLost⟩] } }) ∧
      (s.sc.state = .shadow → 8 ≤ s.st.pendingMarks.length →
        exec .arbitration s = .next { lost with
          mgp := { s.mgp with
            counters := { s.mgp.counters with
              degraded := min 16777215 (s.mgp.counters.degraded + 1)
              discarded := min 16777215 (s.mgp.counters.discarded + 1) }
            event := ⟨.degrade, some g, .lineAddr a.toNat, s.eventPass, true, true⟩ } })))

/-- The grant of a sweep read: the lowest free own tag, a reserved slot at the TXQ tail, the next line raised; the client's queue stands
(R32, R65). The grant of line 1,023 takes the close at once if the slot leaves the TXQ below the ceiling, and leaves it waiting if it
brings the TXQ to 48 (R67, R69; that the close belongs to this event is DEDUCED, log 9). The close moves the entry by the table of R6,
and where it is the last of pass 0 or of a rinse pass it ends the pass at that event (R71, R72, R73; N_d of the record takes in what a
wait counted, DEDUCED, log 38); in CUTOVER one that brings D to 0 ends the final scan with CUTOVER_END, and one that leaves D above 0 at
the end of the map goes round again (R78). -/
def Obligations.SweepReadGrant : Prop :=
  ∀ (r : OpenRecord) (t : Nat) (s : State),
    s.phase = .running → 0 < s.mp.credits → s.sweeping = true → s.se.paused = false → s.se.opened = some r →
    r.nextLine < 1024 → s.st.txq.length < 48 → s.freeOwnTag = some t →
    (s.cp.queue = [] ∨ s.cp.hold = true) →
    let slot : TxEntry := .slot r.openNo (BitVec.ofNat 10 r.nextLine) none
    let u : State := { s with
      out := [.memRequest t (.read (BitVec.ofNat 30 (r.granule * 1024 + r.nextLine)))]
      mp := { s.mp with
        credits := s.mp.credits - 1
        table := s.mp.table ++ [⟨t, .sweep (some (r.openNo, BitVec.ofNat 10 r.nextLine)), .read,
          BitVec.ofNat 30 (r.granule * 1024 + r.nextLine)⟩] } }
    (r.nextLine < 1023 ∨ s.st.txq.length = 47 →
      exec .arbitration s = .next { u with
        st := { s.st with txq := s.st.txq ++ [slot] }
        se := { s.se with opened := some { r with nextLine := r.nextLine + 1 } } }) ∧
    (r.nextLine = 1023 → s.st.txq.length < 47 →
      (s.entry r.granule = some .uncopied ∨ s.entry r.granule = some .dirty) →
      let closing : TxEntry := .frame (.close (BitVec.ofNat 24 r.granule) r.openNo)
      let closed : State := { u with
        gm := s.gmClosed r
        st := { s.st with txq := s.st.txq ++ [slot, closing] }
        se := { s.se with opened := none } }
      ((s.sc.state = .sweep ∧ s.se.cursor.done = false ∨ s.sc.state = .rinse ∧ s.se.scanIdx < s.sc.params.span ∨
          s.se.running = false) →
        exec .arbitration s = .next closed) ∧
      ((s.sc.state = .sweep ∧ s.se.cursor.done = true ∨ s.sc.state = .rinse ∧ s.sc.params.span ≤ s.se.scanIdx) →
        s.se.running = true → s.st.pendingMarks = [] →
        exec .arbitration s = .next closed.passEnded) ∧
      (s.sc.state = .cutover → s.se.running = true → s.st.pendingMarks = [] →
        exec .arbitration s = .next { closed with
          se := { s.se with
            opened := none
            running := decide (0 < closed.d)
            scanIdx := if 0 < closed.d ∧ s.sc.params.span ≤ s.se.scanIdx then 0 else s.se.scanIdx }
          st := { s.st with
            txq := s.st.txq ++ slot :: closing ::
              if closed.d = 0 then [.frame (.mark s.sc.session .cutoverEnd)] else [] } }))

/-- The grant of an apply write on a TARGET: the frame leaves the head, its slot is freed and counted, the last mirror granted follows a
MIRROR (R32, R114). The eighth freed slot makes a CREDIT due, which takes a place with the count and the last mirror granted at that
event, or waits for one (R116). With no frame behind it and nothing else waiting for the return list. -/
def Obligations.ApplyWriteGrant : Prop :=
  ∀ (f : Frame) (w : ApplyWrite) (t : Nat) (s : State),
    s.phase = .running → 0 < s.mp.credits → s.receiving = true → s.sr.buffer = [f] → s.sr.head = some ⟨[], some w⟩ →
    s.appliesOut + s.sr.failedApply.length < 16 → s.sr.failedApply = [] → s.sc.takenWaiting = false →
    s.sr.creditDue = false → s.freeOwnTag = some t → s.cp.queue = [] →
    let granted := w.seq.getD s.sr.lastGranted
    let u : State := { s with
      out := [.memRequest t (if w.poison then .writePoison w.addr else .write w.addr w.mask w.data)]
      mp := { s.mp with
        credits := s.mp.credits - 1
        table := s.mp.table ++ [⟨t, .apply w.granule true, if w.poison then .writePoison else .write, w.addr⟩] } }
    (s.sr.freed < 7 → exec .arbitration s = .next { u with
      sr := { s.sr with buffer := [], head := none, freed := s.sr.freed + 1, lastGranted := granted } }) ∧
    (s.sr.freed = 7 → s.st.returnList.length < 16 → exec .arbitration s = .next { u with
      sr := { s.sr with buffer := [], head := none, freed := 0, lastGranted := granted }
      st := { s.st with returnList := s.st.returnList ++ [.credit 8 granted] } }) ∧
    (s.sr.freed = 7 → 16 ≤ s.st.returnList.length → exec .arbitration s = .next { u with
      sr := { s.sr with buffer := [], head := none, freed := 8, creditDue := true, lastGranted := granted } })

/-- A contested arbitration: K is raised by S and brought back by 16; OWN is granted exactly when it reached 16, otherwise the
client's head request is granted; with no memory-side credit nothing is. Sixteen contested arbitrations from K = 0 at any share S
of 1 … 15 give S grants to OWN and end with K = 0 (R29, R36, R37). -/
def Obligations.ShareArbiterChooses : Prop :=
  (∀ (r : ClientRequest) (rest : List ClientRequest) (t : Nat) (o : OwnOffer) (s : State),
    s.phase = .running → s.cp.queue = r :: rest → s.clientReady = true → s.ownReady = some (t, o) →
    (s.mp.credits = 0 → exec .arbitration s = .next { s with out := [] }) ∧
    (0 < s.mp.credits → ∃ u, exec .arbitration s = .next u ∧
      u.mp.credits = s.mp.credits - 1 ∧
      u.mp.k = (if 16 ≤ s.mp.k + s.cvu.share then s.mp.k + s.cvu.share - 16 else s.mp.k + s.cvu.share) ∧
      u.mp.table.map MemRecord.tag = s.mp.table.map MemRecord.tag ++
        [if 16 ≤ s.mp.k + s.cvu.share then t else r.tagNo])) ∧
  (∀ share, 1 ≤ share → share ≤ 15 →
    ((List.range 16).foldl (fun (p : Nat × Nat) _ =>
      let q := arbiterStep p.1 share
      (q.1, if q.2 then p.2 + 1 else p.2)) (0, 0)) = (0, share))

/-! ### Memory responses -/

/-- MEMORY_RESPONSE to a client request: the record goes, the credit comes back and the response is delivered under its tag; a
failed write is acted on only where WCU acts (R22, R33). -/
def Obligations.ClientResponseDelivered : Prop :=
  ∀ (q : MemResponse) (k : RequestKind) (a : LineAddr) (s : State),
    s.phase = .running → s.recordOf q.tagNo = some ⟨q.tagNo, .client, k, a⟩ → q.matches k = true →
    (q.toClient ≠ .doneFail ∨ s.failureActs = false) →
    exec (.memoryResponse q) s = .next { s with
      out := [.clientResponse q.tagNo q.toClient]
      mp := { s.mp with
        credits := s.mp.credits + 1
        table := s.mp.table.filter fun r => r.tag != q.tagNo } }

/-- A DONE(FAIL) for a client write where WCU acts: the response is delivered, a WRITE_FAIL event captured, and the granule is
dirtied if COPIED and not open, the open record marked stale if it is open, and left as it is otherwise (R33, R51). Dirtied while D is
0, it wakes a WAITING SOURCE that is not PAUSED, which starts a rinse pass (R10, R74); dirtied in SHADOW it raises SYNC_LOST: the mark,
RINSE, the alert, the attempt count 0 and a rinse pass, which does not count the transition (R18, R174). One taken while WAITING or DEFERRED
counts toward the next pass (R10, R150); that it stands in a count of its own until that pass end is DEDUCED (log 38). -/
def Obligations.FailedClientWrite : Prop :=
  ∀ (tag : Nat) (a : LineAddr) (s : State),
    s.phase = .running → s.recordOf tag = some ⟨tag, .client, .write, a⟩ → s.failureActs = true →
    let u : State := { s with
      out := [.clientResponse tag .doneFail]
      mp := { s.mp with credits := s.mp.credits + 1, table := s.mp.table.filter fun r => r.tag != tag }
      mgp := { s.mgp with event := s.captured .writeFail (some (a.toNat / 1024)) (.lineAddr a.toNat) } }
    let dirtied := s.gmDirtied (a.toNat / 1024)
    (s.entry (a.toNat / 1024) = some .copied → s.isOpen (a.toNat / 1024) = false →
      (s.sc.state ≠ .shadow → (s.d = 0 → s.se.waiting = false ∨ s.se.paused = true) →
        exec (.memoryResponse (.done tag true)) s = .next { u with gm := dirtied }) ∧
      (s.sc.state ≠ .shadow → s.d = 0 → s.se.waiting = true → s.se.paused = false →
        exec (.memoryResponse (.done tag true)) s = .next { u with
          gm := { dirtied with nc := 0, nd := 0 }
          se := s.seRinsing }) ∧
      (s.sc.state = .shadow → s.st.txq.length < 62 → s.st.pendingMarks = [] →
        exec (.memoryResponse (.done tag true)) s = .next { u with
          gm := { dirtied with nc := 0, nd := 0, ndNext := 0 }
          se := s.seRinsing
          st := { s.st with txq := s.st.txq ++ [.frame (.mark s.sc.session .syncLost)] }
          sc := { s.sc with state := .rinse }
          cvu := { s.cvu with attempts := 0 }
          au := { s.au with latch := s.au.latch ||| 0x040#12 } })) ∧
    (s.entry (a.toNat / 1024) ≠ none → s.entry (a.toNat / 1024) ≠ some .excluded →
      s.isOpen (a.toNat / 1024) = true →
      exec (.memoryResponse (.done tag true)) s = .next { u with
        se := { s.se with opened := s.se.opened.map fun o => { o with stale := true } } }) ∧
    (s.entry (a.toNat / 1024) = none ∨ s.entry (a.toNat / 1024) = some .excluded ∨
        (s.entry (a.toNat / 1024) ≠ some .copied ∧ s.isOpen (a.toNat / 1024) = false) →
      exec (.memoryResponse (.done tag true)) s = .next u)

/-- MEMORY_RESPONSE to an own request. To a sweep read: its reserved slot is filled in its place, the open record counts the line, and a
poisoned line raises POISONED and captures a POISON event; after the granule's close the slot is filled all the same and no record
changes. To an apply write that succeeded: its record is removed. To a failed apply write on a TARGET in FILLING or SHADOW with a place
in the return list and no other claim waiting: WRITE_FAIL and then NEED are captured, NEED(g) is appended and counted, the clean flag is
cleared, and a TARGET in SHADOW returns to FILLING (R34, R66, R115, R117, R119, R121; the order of the two captures is log 16). A sweep
response after a flush has its data dropped and counts nothing (R41, R81), the response to an apply write of an earlier session has its
status dropped, and a failed one in FAULT captures WRITE_FAIL alone (R115); the record, credit and tag come back in every case (such
records are marked in the table, log 13). -/
def Obligations.OwnResponseTaken : Prop :=
  ∀ (tag : Nat) (a : LineAddr) (s : State), s.phase = .running →
    (∀ (o : Byte) (i : BitVec 10) (d : LineData) (poison : Bool) (pre post : List TxEntry) (r : OpenRecord),
      s.recordOf tag = some ⟨tag, .sweep (some (o, i)), .read, a⟩ →
      s.st.txq = pre ++ .slot o i none :: post → TxEntry.slot o i none ∉ pre →
      s.se.opened = some r → r.openNo = o → r.granule = a.toNat / 1024 →
      exec (.memoryResponse (.data tag d poison)) s = .next { s with
        out := []
        mp := { s.mp with credits := s.mp.credits + 1, table := s.mp.table.filter fun x => x.tag != tag }
        st := { s.st with txq := pre ++ .slot o i (some (poison, d)) :: post }
        se := { s.se with
          opened := some { r with
            returned := r.returned + 1
            poison := if poison then r.poison + 1 else r.poison } }
        mgp := if poison then { s.mgp with
            counters := { s.mgp.counters with poisoned := min 16777215 (s.mgp.counters.poisoned + 1) }
            event := s.captured .poison (some (a.toNat / 1024)) (.lineAddr a.toNat) }
          else s.mgp }) ∧
    (∀ (o : Byte) (i : BitVec 10) (d : LineData) (poison : Bool) (pre post : List TxEntry),
      s.recordOf tag = some ⟨tag, .sweep (some (o, i)), .read, a⟩ →
      s.st.txq = pre ++ .slot o i none :: post → TxEntry.slot o i none ∉ pre →
      (∀ r, s.se.opened = some r → r.openNo ≠ o ∨ r.granule ≠ a.toNat / 1024) →
      exec (.memoryResponse (.data tag d poison)) s = .next { s with
        out := []
        mp := { s.mp with credits := s.mp.credits + 1, table := s.mp.table.filter fun x => x.tag != tag }
        st := { s.st with txq := pre ++ .slot o i (some (poison, d)) :: post }
        mgp := if poison then { s.mgp with
            counters := { s.mgp.counters with poisoned := min 16777215 (s.mgp.counters.poisoned + 1) }
            event := s.captured .poison (some (a.toNat / 1024)) (.lineAddr a.toNat) }
          else s.mgp }) ∧
    (∀ (g : Nat) (k : RequestKind), k ≠ .read → s.recordOf tag = some ⟨tag, .apply g true, k, a⟩ →
      exec (.memoryResponse (.done tag false)) s = .next { s with
        out := []
        mp := { s.mp with credits := s.mp.credits + 1, table := s.mp.table.filter fun x => x.tag != tag } }) ∧
    (∀ (g : Nat) (k : RequestKind), s.receiving = true → k ≠ .read → s.recordOf tag = some ⟨tag, .apply g true, k, a⟩ →
      s.st.returnList.length < 16 → s.sr.failedApply = [] → s.sc.takenWaiting = false → s.sr.creditDue = false →
      s.sr.buffer = [] → s.sr.head = none →
      exec (.memoryResponse (.done tag true)) s = .next { s with
        out := []
        mp := { s.mp with credits := s.mp.credits + 1, table := s.mp.table.filter fun x => x.tag != tag }
        st := { s.st with returnList := s.st.returnList ++ [.need (BitVec.ofNat 24 g)] }
        sr := { s.sr with clean := false }
        sc := { s.sc with
          state := .filling
          unsynced := s.sc.unsynced || (s.sc.state == .shadow && s.sc.takeoverPending) }
        mgp := { s.mgp with
          counters := { s.mgp.counters with needs := min 16777215 (s.mgp.counters.needs + 1) }
          event := ⟨.need, some g, .absent, s.eventPass, true, true⟩ } }) ∧
    (let u : State := { s with
       out := []
       mp := { s.mp with credits := s.mp.credits + 1, table := s.mp.table.filter fun x => x.tag != tag } }
     (∀ d poison, s.recordOf tag = some ⟨tag, .sweep none, .read, a⟩ →
       exec (.memoryResponse (.data tag d poison)) s = .next u) ∧
     (∀ (g : Nat) (k : RequestKind) (fail : Bool), k ≠ .read → s.recordOf tag = some ⟨tag, .apply g false, k, a⟩ →
       exec (.memoryResponse (.done tag fail)) s = .next u) ∧
     (∀ (g : Nat) (k : RequestKind), s.targetIn .fault = true → k ≠ .read →
       s.recordOf tag = some ⟨tag, .apply g true, k, a⟩ →
       exec (.memoryResponse (.done tag true)) s = .next { u with
         mgp := { s.mgp with event := s.captured .writeFail (some g) (.lineAddr a.toNat) } }))

/-- A response that MP cannot match is discarded at its arrival, and MP counts PROTOCOL; no credit is returned and a record of the
other kind stays (R35). -/
def Obligations.UnmatchedResponse : Prop :=
  ∀ (q : MemResponse) (s : State), s.phase = .running →
    (s.recordOf q.tagNo = none ∨ ∃ r, s.recordOf q.tagNo = some r ∧ q.matches r.kind = false) →
    exec (.memoryResponse q) s = .next { s with
      out := []
      mgp := { s.mgp with
        counters := { s.mgp.counters with protocol := min 16777215 (s.mgp.counters.protocol + 1) } } }

/-! ### The sweep -/

/-- VISIT of a granule that is UNCOPIED or DIRTY opens it: the record, the OPEN frame and the open number; the cursor steps in pass 0,
the scan index rises otherwise (R62, R64). A COPIED or EXCLUDED one is skipped with no frame; the skipped visit that passes the last
extent ends pass 0 (R71, R73), and in the final scan the one of the last granule goes round again with D above 0, and one that finds D
at 0 ends the scan with CUTOVER_END (R78); the end of a rinse pass is stated by itself. A step of the cursor lowers the innermost
remaining count that is above 1 and enters the levels inside it again, the next granule being first plus each level's index times its
stride, modulo the span; from the last position of an extent it enters the next one, and past the last sets pass-0-done (R60, R61). -/
def Obligations.VisitOpensOrSkips : Prop :=
  (∀ (g : Nat) (s : State),
    s.phase = .running → s.sweeping = true → s.se.running = true → s.se.opened = none → s.se.paused = false →
    s.st.txq.length < 48 →
    (if s.sc.state = .sweep then s.se.cursor.done = false ∧ s.se.cursor.next = some g
      else s.se.scanIdx < s.sc.params.span ∧ s.se.scanIdx = g) →
    let stepped : Se := if s.sc.state = .sweep then
        { s.se with cursor := s.se.cursor.step s.se.plan s.sc.params.span }
      else { s.se with scanIdx := s.se.scanIdx + 1 }
    ((s.entry g = some .uncopied ∨ s.entry g = some .dirty) →
      exec .visit s = .next { s with
        out := []
        se := { stepped with opened := some ⟨g, s.se.openNo, 0, 0, false, 0⟩, openNo := s.se.openNo + 1 }
        st := { s.st with txq := s.st.txq ++ [.frame (.opening (BitVec.ofNat 24 g) s.se.openNo)] } }) ∧
    ((s.entry g = some .copied ∨ s.entry g = some .excluded) →
      (if s.sc.state = .sweep then stepped.cursor.done = false
        else stepped.scanIdx < s.sc.params.span ∧ (s.sc.state = .cutover → 0 < s.d)) →
      exec .visit s = .next { s with out := [], se := stepped }) ∧
    ((s.entry g = some .copied ∨ s.entry g = some .excluded) → s.st.pendingMarks = [] →
      (s.sc.state = .sweep → stepped.cursor.done = true →
        exec .visit s = .next ({ s with out := [], se := stepped } : State).passEnded) ∧
      (s.sc.state = .cutover → 0 < s.d → s.sc.params.span ≤ stepped.scanIdx →
        exec .visit s = .next { s with out := [], se := { stepped with scanIdx := 0 } }) ∧
      (s.sc.state = .cutover → s.d = 0 →
        exec .visit s = .next { s with
          out := []
          se := { stepped with running := false }
          st := { s.st with txq := s.st.txq ++ [.frame (.mark s.sc.session .cutoverEnd)] } }))) ∧
  (∀ (c : Cursor) (plan : List Extent) (span : Nat) (e : Extent), plan[c.extent]? = some e →
    c.remaining.length = e.levels.length →
    (∀ pre r k, c.remaining = pre ++ r :: List.replicate k 1 → 1 < r →
      let rem := pre ++ (r - 1) :: (e.levels.drop (pre.length + 1)).map Level.count
      c.step plan span = { c with
        remaining := rem
        next := some ((e.first +
          ((e.levels.zip rem).map fun p => (p.1.count - p.2) * p.1.stride).sum) % span) }) ∧
    ((∀ r ∈ c.remaining, r ≤ 1) →
      (∀ f, plan[c.extent + 1]? = some f →
        c.step plan span = ⟨c.extent + 1, f.levels.map Level.count, some (f.first % span), false⟩) ∧
      (plan.length ≤ c.extent + 1 → c.step plan span = ⟨c.extent + 1, [], none, true⟩)))

/-- The close of a granule with its 1,024 reservations made and room below the ceiling: the CLOSE frame, the record released, and
the entry moved by the table of R6 with the census and N_c, alone where no pass or round ends by it (R6, R9, R10, R67). In CUTOVER a
close that brings D to 0 sends CUTOVER_END and stops the scan, and one that leaves D above 0 at the end of the map goes round again
(R78). A close that ends pass 0 or a rinse pass takes its pass end after the move: the mark, the record and the alert, then DEFERRED
while PAUSED, otherwise CUTOVER, a rinse pass or WAITING (R71, R72, R73, R164). N_d of that record takes in what a wait counted
toward the pass, in a count of its own (DEDUCED, log 38). In a run the close is taken at the grant or the send that makes it due
(log 9), where SweepReadGrant and TxqSend state it. That PAUSED stands from SWEEP into RINSE is DEDUCED (log 19). -/
def Obligations.CloseMovesEntry : Prop :=
  ∀ (r : OpenRecord) (s : State),
    s.phase = .running → s.sweeping = true → s.se.opened = some r → 1024 ≤ r.nextLine → s.st.txq.length < 48 →
    (s.entry r.granule = some .uncopied ∨ s.entry r.granule = some .dirty) →
    let closing : TxEntry := .frame (.close (BitVec.ofNat 24 r.granule) r.openNo)
    let moved := s.gmClosed r
    let d := moved.census.uncopied + moved.census.dirty
    ((s.sc.state = .sweep ∧ s.se.cursor.done = false ∨ s.sc.state = .rinse ∧ s.se.scanIdx < s.sc.params.span ∨
        s.se.running = false) →
      exec .granuleClose s = .next { s with
        out := []
        gm := moved
        se := { s.se with opened := none }
        st := { s.st with txq := s.st.txq ++ [closing] } }) ∧
    (s.sc.state = .cutover → s.se.running = true → s.st.pendingMarks = [] →
      exec .granuleClose s = .next { s with
        out := []
        gm := moved
        se := { s.se with
          opened := none
          running := decide (0 < d)
          scanIdx := if 0 < d ∧ s.sc.params.span ≤ s.se.scanIdx then 0 else s.se.scanIdx }
        st := { s.st with txq := s.st.txq ++ closing :: if d = 0 then [.frame (.mark s.sc.session .cutoverEnd)] else [] } }) ∧
    ((s.sc.state = .sweep ∧ s.se.cursor.done = true ∨ s.sc.state = .rinse ∧ s.sc.params.span ≤ s.se.scanIdx) →
      s.se.running = true → s.st.pendingMarks = [] →
      exec .granuleClose s = .next ({ s with
        out := []
        gm := moved
        se := { s.se with opened := none }
        st := { s.st with txq := s.st.txq ++ [closing] } } : State).passEnded)

/-- The skipped visit of the last granule ends a rinse pass: the PASS_END mark with the pass number and D, the pass record, the
PASS_END alert, the next pass number; then CUTOVER if the test is met and cutover is armed (a visit is never PAUSED), another
rinse pass if D is above 0, WAITING otherwise (R72, R73, R78, R157, R164). N_d of the record takes in what the wait before the pass counted
toward it (R10, R150; that this stands in a count of its own is DEDUCED, log 38). -/
def Obligations.PassEndDecides : Prop :=
  ∀ (g : Nat) (s : State),
    s.phase = .running → s.sourceIn .rinse = true → s.sc.releasePending = false → s.se.running = true →
    s.se.opened = none → s.se.paused = false → s.st.txq.length < 48 → s.st.pendingMarks = [] →
    s.sc.params.span = g + 1 → s.se.scanIdx = g → (s.entry g = some .copied ∨ s.entry g = some .excluded) →
    let t := max 1 s.se.passTimer
    let c := if s.gm.nc = 0 then s.cvu.heldC else min 65535 (s.gm.nc * 1024 / t)
    let ok := eligibleFor s.sc.params c s.d
    let mark (k : MarkKind) : TxEntry := .frame (.mark s.sc.session k)
    let ended := mark (.passEnd (BitVec.ofNat 16 s.se.passNo) (BitVec.ofNat 24 s.d))
    ∃ u, exec .visit s = .next u ∧ u = ({ s with out := [], se := { s.se with scanIdx := g + 1 } } : State).passEnded ∧
      u.se.passNo = min 65535 (s.se.passNo + 1) ∧ u.latched .passEnd = true ∧ (ok = true → u.latched .eligible = true) ∧
      u.cvu.record.valid = true ∧ u.cvu.record.passNo = s.se.passNo ∧ u.cvu.record.t = t ∧
      u.cvu.record.nc = s.gm.nc ∧ u.cvu.record.nd = min 16777215 (s.gm.nd + s.gm.ndNext) ∧ u.cvu.record.d = s.d ∧
      u.cvu.record.c = c ∧
      u.cvu.record.eligible = ok ∧ u.cvu.record.point = .passEnd ∧ u.cvu.heldC = c ∧
      u.cp.queue = s.cp.queue ∧ u.mp = s.mp ∧ u.sr = s.sr ∧ u.mgp = s.mgp ∧ u.gm.map = s.gm.map ∧
      (if ok = true ∧ s.cvu.armed = true then
        u.sc.state = .cutover ∧ u.cp.hold = true ∧ u.sc.holdTimer = ⟨true, 0⟩ ∧ u.cvu.attempts = s.cvu.attempts + 1 ∧
        u.se.running = decide (0 < s.d) ∧
        u.st.txq = s.st.txq ++ [ended, mark (.cutoverBegin (BitVec.ofNat 8 (s.cvu.attempts + 1)))] ++
          (if s.d = 0 then [mark .cutoverEnd] else [])
      else
        u.sc.state = .rinse ∧ u.cp.hold = s.cp.hold ∧ u.st.txq = s.st.txq ++ [ended] ∧
        u.se.running = decide (0 < s.d) ∧ u.se.waiting = decide (s.d = 0) ∧
        (0 < s.d → u.se.scanIdx = 0 ∧ u.se.passTimer = 0 ∧ u.gm.nc = 0 ∧ u.gm.nd = 0))

/-! ### Sends and timers -/

/-- TXQ_SEND with a complete head and a send credit free: the head leaves as its frame, a credit is spent, the keepalive restarts
and a due KEEP is cancelled, a MIRROR becomes the newest sent, a CUTOVER_END begins the wait for READY in a hold, and the oldest
pending mark takes the place (R86, R89, R92, R93, R166). For a head other than RELEASE. A close that waited for the place is taken
at the send that brings the TXQ below the ceiling (R67, R69; that it belongs to this event is DEDUCED, log 9). Where it is the last
of pass 0 or of a rinse pass it ends the pass at that event (R71, R72, R73; N_d of the record takes in what a wait counted, DEDUCED,
log 38); in CUTOVER one that brings D to 0 ends the final scan with CUTOVER_END, and one that leaves D above 0 at the end of the map
goes round again (R78). That any CUTOVER_END sent in CUTOVER begins the wait for READY (log 24) and that PAUSED stands from SWEEP
into RINSE (log 19) are DEDUCED. -/
def Obligations.TxqSend : Prop :=
  ∀ (e : TxEntry) (f : Frame) (rest : List TxEntry) (s : State),
    s.phase = .running → s.transmitting = true → s.sc.linkUp = true → s.st.txq = e :: rest → e.complete = some f →
    0 < s.st.sendCredits → s.st.keepalive.running = true → (∀ n, f ≠ .mark n .release) →
    let sent : State := { s with
      out := [.frame f.bytes]
      st := { s.st with
        txq := rest ++ (s.st.pendingMarks.take 1).map fun m => .frame (.mark m.session m.kind)
        pendingMarks := s.st.pendingMarks.tail
        sendCredits := s.st.sendCredits - 1
        newestSent := match f with
          | .mirror q _ _ _ => some q
          | _ => s.st.newestSent
        keepalive := ⟨true, 0⟩
        keepDue := false }
      sc := { s.sc with
        awaitingReady := match f with
          | .mark _ .cutoverEnd => s.sc.awaitingReady || s.holding
          | _ => s.sc.awaitingReady }
      au := { s.au with
        latch := if s.st.pendingMarks ≠ [] ∧ rest.length = 62 then s.au.latch ||| 0x080#12 else s.au.latch } }
    (rest.length < 64 → (∀ r, s.se.opened = some r → r.nextLine < 1024 ∨ 48 ≤ rest.length) →
      exec .txqSend s = .next sent) ∧
    (∀ r, s.se.opened = some r → 1024 ≤ r.nextLine → rest.length < 48 → s.st.pendingMarks = [] → s.sweeping = true →
      (s.entry r.granule = some .uncopied ∨ s.entry r.granule = some .dirty) →
      let closing : TxEntry := .frame (.close (BitVec.ofNat 24 r.granule) r.openNo)
      let closed : State := { sent with
        gm := s.gmClosed r
        se := { s.se with opened := none }
        st := { sent.st with txq := rest ++ [closing] } }
      ((s.sc.state = .sweep ∧ s.se.cursor.done = false ∨ s.sc.state = .rinse ∧ s.se.scanIdx < s.sc.params.span ∨
          s.se.running = false) →
        exec .txqSend s = .next closed) ∧
      ((s.sc.state = .sweep ∧ s.se.cursor.done = true ∨ s.sc.state = .rinse ∧ s.sc.params.span ≤ s.se.scanIdx) →
        s.se.running = true →
        exec .txqSend s = .next closed.passEnded) ∧
      (s.sc.state = .cutover → s.se.running = true →
        exec .txqSend s = .next { closed with
          se := { s.se with
            opened := none
            running := decide (0 < closed.d)
            scanIdx := if 0 < closed.d ∧ s.sc.params.span ≤ s.se.scanIdx then 0 else s.se.scanIdx }
          st := { sent.st with
            txq := rest ++ closing :: if closed.d = 0 then [.frame (.mark s.sc.session .cutoverEnd)] else [] } }))

/-- KEEPALIVE_EXPIRY and RETURN_LIST_SEND. On a SOURCE the expiry sends KEEP at once if the transmitter is ready, otherwise it falls
due; a due KEEP goes out at the next ready at which the TXQ head cannot be sent. On a TARGET the expiry with an empty return list
and nothing else waiting appends a CREDIT with the freed count and the last mirror granted, and RETURN_LIST_SEND sends the oldest
frame and restarts the keepalive. A send that frees the only place gives it to the first waiting claim: a TAKEN, then the oldest
granule of the failed-apply list, then the head's answers (stated of a LOSS before its mirror's offer), then a due CREDIT (R87, R92,
R100, R116, R117). In LISTEN and FAULT, where the keepalive stands stopped, a send leaves it so. That LOSSES rises as the LOSS takes
its place is DEDUCED (log 16), and so is that the keepalive of a TARGET stands at KI from its expiry until the next send (log 25).
That an expiry is taken whatever the count stands at is the model's choice (log 3). -/
def Obligations.KeepaliveAndReturnList : Prop :=
  (∀ s : State, s.phase = .running → s.transmitting = true → s.st.keepalive.running = true →
    exec (.keepaliveExpiry true) s = .next { s with
      out := [.frame Frame.keep.bytes]
      st := { s.st with keepalive := ⟨true, 0⟩, keepDue := false } } ∧
    exec (.keepaliveExpiry false) s = .next { s with
      out := []
      st := { s.st with keepalive := ⟨true, s.sc.params.ki⟩, keepDue := true } } ∧
    (s.sc.linkUp = true → s.st.keepDue = true →
      (s.st.sendCredits = 0 ∨ s.st.txq.head?.bind TxEntry.complete = none) →
      exec .txqSend s = .next { s with
        out := [.frame Frame.keep.bytes]
        st := { s.st with keepalive := ⟨true, 0⟩, keepDue := false } })) ∧
  (∀ s : State, s.phase = .running → s.receiving = true → s.st.keepalive.running = true →
    (∀ ready, s.st.returnList = [] → s.sr.failedApply = [] → s.sc.takenWaiting = false → s.sr.buffer = [] →
      s.sr.head = none →
      exec (.keepaliveExpiry ready) s = .next { s with
        out := []
        st := { s.st with
          keepalive := ⟨true, s.sc.params.ki⟩
          returnList := [.credit (BitVec.ofNat 8 s.sr.freed) s.sr.lastGranted] }
        sr := { s.sr with freed := 0, creditDue := false } }) ∧
    (∀ f rest, s.st.returnList = f :: rest → s.sc.linkUp = true → (∀ n, f ≠ .taken n) →
      (s.sr.head = none → s.sr.buffer = []) →
      let sent : St := { s.st with keepalive := ⟨true, 0⟩ }
      (rest.length < 16 → s.sr.failedApply = [] → s.sc.takenWaiting = false → s.sr.creditDue = false →
        (s.sr.head = none ∨ ∃ w, s.sr.head = some ⟨[], w⟩) →
        exec .returnListSend s = .next { s with out := [.frame f.bytes], st := { sent with returnList := rest } }) ∧
      (rest.length = 15 →
        (s.sc.takenWaiting = true → exec .returnListSend s = .next { s with
          out := [.frame f.bytes]
          st := { sent with returnList := rest ++ [.taken s.sc.session] }
          sc := { s.sc with takenWaiting := false } }) ∧
        (∀ g gs, s.sr.failedApply = g :: gs → s.sc.takenWaiting = false → exec .returnListSend s = .next { s with
          out := [.frame f.bytes]
          st := { sent with returnList := rest ++ [.need (BitVec.ofNat 24 g)] }
          sr := { s.sr with failedApply := gs }
          mgp := { s.mgp with
            counters := { s.mgp.counters with needs := min 16777215 (s.mgp.counters.needs + 1) } } }) ∧
        (∀ e d w, s.sc.takenWaiting = false → s.sr.failedApply = [] → s.sr.head = some ⟨[.loss e d], some w⟩ →
          exec .returnListSend s = .next { s with
            out := [.frame f.bytes]
            st := { sent with returnList := rest ++ [.loss e d] }
            sr := { s.sr with head := some ⟨[], some w⟩ }
            mgp := { s.mgp with
              counters := { s.mgp.counters with losses := min 16777215 (s.mgp.counters.losses + 1) } } }) ∧
        (s.sc.takenWaiting = false → s.sr.failedApply = [] → s.sr.creditDue = true →
          (s.sr.head = none ∨ ∃ w, s.sr.head = some ⟨[], w⟩) →
          exec .returnListSend s = .next { s with
            out := [.frame f.bytes]
            st := { sent with returnList := rest ++ [.credit (BitVec.ofNat 8 s.sr.freed) s.sr.lastGranted] }
            sr := { s.sr with freed := 0, creditDue := false } })))) ∧
  (∀ s : State, s.phase = .running → (s.targetIn .listen = true ∨ s.targetIn .fault = true) → s.sc.linkUp = true →
    s.st.keepalive.running = false → s.sc.takenWaiting = false → (s.sr.head = none → s.sr.buffer = []) →
    ∀ f rest, s.st.returnList = f :: rest → (∀ n, f ≠ .taken n) →
      exec .returnListSend s = .next { s with out := [.frame f.bytes], st := { s.st with returnList := rest } })

/-- Link loss on a SOURCE (R134, R135, R101): by link-down in any session state, by the silent limit in a sending state and by the
handshake's expiry. The part enters FAULT with the reason, its queues are flushed and the newest mirror sent cleared; FAULT is
raised, and LINK_LOST but for the handshake (R129). That a stopped timer keeps its count, the handshake timer's 10,000 at its expiry
among them, is the model's choice (log 10). So is that an expiry is taken whatever the count stands at (log 3). -/
def Obligations.SourceLosesLink : Prop :=
  ∀ s : State, s.phase = .running →
    (s.transmitting = true →
      let u := ({ s with out := [], sc := { s.sc with linkUp := false } } : State).leftSource .fault none
      exec .linkDown s = .next { u with
        sc := { u.sc with faultReason := some .linkDown }
        au := { u.au with latch := u.au.latch ||| 0x100#12 ||| 0x200#12 } }) ∧
    (s.sending = true → s.sr.silent.running = true →
      let u := ({ s with out := [], sr := { s.sr with silent := ⟨true, 0, s.sc.params.sl⟩ } } : State).leftSource .fault none
      exec .silentLimitExpiry s = .next { u with
        sc := { u.sc with faultReason := some .silent }
        au := { u.au with latch := u.au.latch ||| 0x100#12 ||| 0x200#12 } }) ∧
    (s.sourceIn .handshake = true →
      let u := ({ s with out := [] } : State).leftSource .fault none
      exec .handshakeExpiry s = .next { u with
        sc := { u.sc with faultReason := some .handshakeTimeout, handshake := ⟨false, 10000⟩ }
        au := { u.au with latch := u.au.latch ||| 0x200#12 } })

/-- Link loss on a TARGET in FILLING or SHADOW, by LINK_DOWN or by the silent limit, and the link events where no session is lost
(R106, R134). Without a pending takeover the TARGET enters FAULT: the return list and the answers of the head are dropped, a due
CREDIT is withdrawn, and an accepted LINE or MIRROR stays on offer with the buffer kept behind it (R123, R136); with one the
takeover completes (R144). The drain in FAULT grants that write with no slot counted as freed, and a MIRROR behind it that follows a
gap moves E and clears the clean flag with no LOSS sent (R112, R119, R123). LINK_UP sets the link state and nothing else. The counts
of stopped timers are the model's choice (log 10). So is that an expiry is taken whatever the count stands at (log 3). DEDUCED are
that an expiry of a stopped timer changes nothing (log 4), that the clean flag (log 30) and the freed count (log 15) stand in FAULT,
and that a LOSS decided there clears the clean flag and is not sent (log 14). -/
def Obligations.TargetLosesLink : Prop :=
  ∀ s : State, s.phase = .running →
    let lost (linkUp : Bool) (reason : FaultReason) (silent : Silent) (head : Option Head) : State := { s with
      out := []
      st := { s.st with returnList := [], keepalive := ⟨false, s.st.keepalive.count⟩ }
      sr := { s.sr with head := head, creditDue := false, silent := silent }
      sc := { s.sc with linkUp := linkUp, state := .fault, faultReason := some reason }
      au := { s.au with latch := s.au.latch ||| 0x200#12 ||| 0x100#12 } }
    exec .linkUp s = .next { s with out := [], sc := { s.sc with linkUp := true } } ∧
    (s.transmitting = false → s.receiving = false → (s.sc.role = .target → s.sc.takeoverPending = false) →
      exec .linkDown s = .next { s with out := [], sc := { s.sc with linkUp := false } }) ∧
    (s.sr.silent.running = false → exec .silentLimitExpiry s = .next { s with out := [] }) ∧
    (s.receiving = true → s.sc.takeoverPending = false → s.sc.takenWaiting = false →
      (s.sr.buffer = [] → s.sr.head = none →
        exec .linkDown s = .next (lost false .linkDown { s.sr.silent with running := false } none) ∧
        (s.sr.silent.running = true →
          exec .silentLimitExpiry s = .next (lost s.sc.linkUp .silent ⟨false, 0, s.sc.params.sl⟩ none))) ∧
      (∀ answers w, s.sr.head = some ⟨answers, some w⟩ →
        exec .linkDown s =
          .next (lost false .linkDown { s.sr.silent with running := false } (some ⟨[], some w⟩)) ∧
        (s.sr.silent.running = true →
          exec .silentLimitExpiry s =
            .next (lost s.sc.linkUp .silent ⟨false, 0, s.sc.params.sl⟩ (some ⟨[], some w⟩))))) ∧
    (s.sc.role = .target → s.sc.takeoverPending = true →
      let synced := s.sc.synced || !s.sc.unsynced
      exec .linkDown s = .next
        ({ s with out := [], sc := { s.sc with linkUp := false, synced := synced } } : State).leftTarget ∧
      (s.receiving = true → s.sr.silent.running = true → exec .silentLimitExpiry s = .next
        ({ s with
          out := []
          sr := { s.sr with silent := ⟨true, 0, s.sc.params.sl⟩ }
          sc := { s.sc with synced := synced } } : State).leftTarget)) ∧
    (∀ (f : Frame) (w : ApplyWrite) (t : Nat),
      s.targetIn .fault = true → s.sc.takenWaiting = false → s.sr.head = some ⟨[], some w⟩ → 0 < s.mp.credits →
      s.freeOwnTag = some t → s.cp.queue = [] →
      let u : State := { s with
        out := [.memRequest t (if w.poison then .writePoison w.addr else .write w.addr w.mask w.data)]
        mp := { s.mp with
          credits := s.mp.credits - 1
          table := s.mp.table ++ [⟨t, .apply w.granule true, if w.poison then .writePoison else .write, w.addr⟩] } }
      (s.sr.buffer = [f] → exec .arbitration s = .next { u with
        sr := { s.sr with buffer := [], head := none, lastGranted := w.seq.getD s.sr.lastGranted } }) ∧
      (∀ q a m d rest, s.sr.buffer = f :: .mirror q a m d :: rest → q ≠ s.sr.expected →
        (q - s.sr.expected).toNat < 32768 → a.toNat / 1024 < s.sc.params.span → s.localCovers (a.toNat / 1024) = false →
        exec .arbitration s = .next { u with
          sr := { s.sr with
            buffer := .mirror q a m d :: rest
            head := some ⟨[], some ⟨false, a.setWidth 30, m, d, a.toNat / 1024, some q⟩⟩
            expected := q + 1
            clean := false
            lastGranted := w.seq.getD s.sr.lastGranted } }))

/-- The hold timer expires in CUTOVER: CUTOVER_ABORT with the attempt count, hold released, RINSE, a rinse pass if D is above 0 and
WAITING otherwise, CUTOVER_ABORT raised; at the third attempt the SOURCE disarms and raises CUTOVER_GIVEUP (R170, R79). The mark is
appended, raising TXQ_HIGH as the 63rd entry, or joins the pending marks, or where 8 are pending is dropped with DISCARDED and a
DISCARD event of its mark kind (R89, R90). The rinse pass counts itself alone (R170). That the stopped hold timer keeps its count,
H_limit, is the model's choice (log 10); that a count of transitions toward the next pass ends here is DEDUCED (log 38). That the
expiry is taken whatever the count stands at is the model's choice (log 3). -/
def Obligations.HoldTimerExpires : Prop :=
  ∀ s : State, s.phase = .running → s.sourceIn .cutover = true → s.sc.holdTimer.running = true →
    let kind : MarkKind := .cutoverAbort (BitVec.ofNat 8 s.cvu.attempts)
    let u : State := { s with
      out := []
      cp := { s.cp with hold := false }
      gm := if 0 < s.d then { s.gm with nc := 0, nd := 0, ndNext := 0 } else { s.gm with ndNext := 0 }
      se := if 0 < s.d then { s.se with running := true, waiting := false, scanIdx := 0, passTimer := 0 }
        else { s.se with running := false, waiting := true }
      sc := { s.sc with state := .rinse, holdTimer := ⟨false, s.sc.params.hLimit⟩, awaitingReady := false }
      cvu := { s.cvu with armed := s.cvu.armed && decide (s.cvu.attempts < 3) }
      au := { s.au with
        latch := s.au.latch ||| 0x008#12 ||| (if s.cvu.attempts < 3 then 0#12 else 0x010#12) } }
    (s.st.txq.length < 64 → s.st.pendingMarks = [] →
      exec .holdTimerExpiry s = .next { u with
        st := { s.st with txq := s.st.txq ++ [.frame (.mark s.sc.session kind)] }
        au := { s.au with latch := u.au.latch ||| (if s.st.txq.length = 62 then 0x080#12 else 0#12) } }) ∧
    (64 ≤ s.st.txq.length ∨ s.st.pendingMarks ≠ [] → s.st.pendingMarks.length < 8 →
      exec .holdTimerExpiry s = .next { u with
        st := { s.st with pendingMarks := s.st.pendingMarks ++ [⟨s.sc.session, kind⟩] } }) ∧
    (8 ≤ s.st.pendingMarks.length →
      exec .holdTimerExpiry s = .next { u with
        mgp := { s.mgp with
          counters := { s.mgp.counters with discarded := min 16777215 (s.mgp.counters.discarded + 1) }
          event := s.captured .discard none (.markKind 4) } })

/-! ### Frames at a SOURCE -/

/-- A frame that no role and state takes is discarded with its count and its DISCARD event, and only restarts the silent timer; KEEP
restarts the timer alone. A frame that finds the receive buffer full is discarded with OVERFLOW set, its slot counted as freed and
the clean flag cleared (R108). A frame whose CRC does not check is discarded with a DISCARD event that names nothing, and a
malformed one, which has restarted the silent timer, with the frame kind of a known kind byte (R198). Either is then a lost answer
on a SOURCE in a sending state: FAULT with reason ANSWER_LOST. On a TARGET in FILLING or SHADOW one that is not 3 bytes long is
counted as freed, clears the clean flag and ends SHADOW, and a lost KEEP does none of this (R104, R105, R107, R121, R122). A SOURCE
in a sending state discards every REPLY, and a READY or TAKEN of another session (R122); a TARGET in FILLING or SHADOW discards a
frame of the wrong direction at the head, which clears the clean flag and ends SHADOW (R107, R119). That a READY is discarded by a
part with no role is the model's choice (log 44), and so are the counts that stopped timers keep (log 10). That fewer than two bytes
do not check is DEDUCED (log 28). -/
def Obligations.FramesDiscarded : Prop :=
  (∀ (f : Frame) (s : State), s.phase = .running → s.sc.linkUp = true → f.wf = true →
    let dropped : Mgp := { s.mgp with
      counters := { s.mgp.counters with discarded := min 16777215 (s.mgp.counters.discarded + 1) }
      event := s.captured .discard (s.discardGranule f) (s.discardDetail f) }
    (f = .keep → exec (.frameArrival f.bytes) s = .next s.heard) ∧
    (f ≠ .keep → (s.sc.role = .none ∨ s.sc.role = .target ∧ s.sc.state = .idle ∨
        s.sc.role = .target ∧ (s.sc.state = .listen ∨ s.sc.state = .fault) ∧ (∀ n sp q, f ≠ .hello n sp q) ∨
        s.sc.role = .source ∧ f.fromSource = true ∨
        s.sending = true ∧ f.unwantedBySender s.sc.session = true ∨
        s.sc.role = .source ∧ s.sending = false ∧ (∀ ok, f ≠ .ready s.sc.session ok) ∧
          (s.sc.state = .handshake → ∀ a fs, f ≠ .reply s.sc.session a fs)) →
      exec (.frameArrival f.bytes) s = .next { s.heard with mgp := dropped }) ∧
    (∀ w, f ≠ .keep → s.receiving = true → 32 ≤ s.sr.buffer.length → s.sr.head = some ⟨[], some w⟩ →
      s.sr.creditDue = false → s.sr.freed < 7 → s.sc.takenWaiting = false → s.sr.failedApply = [] →
      exec (.frameArrival f.bytes) s = .next { s.heard with
        mgp := dropped
        sr := { s.heard.sr with overflow := true, freed := s.sr.freed + 1, clean := false }
        sc := { s.sc with
          state := .filling
          unsynced := s.sc.unsynced || (s.sc.state == .shadow && s.sc.takeoverPending) } }) ∧
    (f ≠ .keep → f.fromSource = false → s.listening →
      exec (.frameArrival f.bytes) s = .next { s.heard with
        mgp := dropped
        sr := { s.heard.sr with freed := s.sr.freed + 1, clean := false }
        sc := { s.sc with
          state := .filling
          unsynced := s.sc.unsynced || (s.sc.state == .shadow && s.sc.takeoverPending) } })) ∧
  (∀ (bs : List Byte) (s : State), s.phase = .running → s.sc.linkUp = true →
    ∀ (heard : State) (detail : Detail),
    (crcChecks bs = false ∧ heard = { s with out := [] } ∧ detail = .absent ∨
      crcChecks bs = true ∧ parseFrame (frameBody bs) = none ∧ heard = s.heard ∧
        detail = (if (frameBody bs).headD 0 ∈
            [0x01, 0x02, 0x03, 0x04, 0x05, 0x06, 0x07, 0x11, 0x12, 0x13, 0x14, 0x15, 0x16]
          then .frameKind ((frameBody bs).headD 0) else .absent)) →
    let u : State := { heard with
      mgp := { s.mgp with
        counters := { s.mgp.counters with discarded := min 16777215 (s.mgp.counters.discarded + 1) }
        event := s.captured .discard none detail } }
    (s.sending = false → s.receiving = false → exec (.frameArrival bs) s = .next u) ∧
    (s.sending = true →
      exec (.frameArrival bs) s = .next { u.leftSource .fault none with
        sc := { (u.leftSource .fault none).sc with faultReason := some .answerLost }
        au := { u.au with latch := u.au.latch ||| 0x100#12 ||| 0x200#12 } }) ∧
    (s.receiving = true → bs.length = 3 → exec (.frameArrival bs) s = .next u) ∧
    (s.receiving = true → bs.length ≠ 3 → s.sr.creditDue = false → s.sr.freed < 7 → s.sc.takenWaiting = false →
      s.sr.failedApply = [] → s.sr.buffer = [] → s.sr.head = none →
      exec (.frameArrival bs) s = .next { u with
        sr := { u.sr with freed := s.sr.freed + 1, clean := false }
        sc := { s.sc with
          state := .filling
          unsynced := s.sc.unsynced || (s.sc.state == .shadow && s.sc.takeoverPending) } }))

/-- A CREDIT in a sending state raises the send credits; an ack that is not ahead and names a record removes it and all older ones;
an ack that is ahead removes none and counts PROTOCOL. A sum above 32 leaves 32 and counts PROTOCOL. One that brings back the last credit
settles what the ack leaves of the MRL: every record whose mirror was sent is removed and its granule is no longer COPIED unless it is
the open one; the records still in the TXQ stay; LOSSES rises once if any was settled (R91, R95, R96). After the acceptance of DETACH the
records go with no change of the map (R99). An ack that is ahead settles nothing, also where the credit is the last (R95, R96). -/
def Obligations.CreditTaken : Prop :=
  (∀ (n : Byte) (a : BitVec 16) (s : State),
    s.phase = .running → s.sc.linkUp = true → s.sending = true → s.st.sendCredits + n.toNat < 32 → MrlConsecutive s →
    s.st.mrl.length ≤ 128 →
    (∀ pre r post, s.st.mrl = pre ++ r :: post → r.seq = a →
      exec (.frameArrival (Frame.credit n a).bytes) s = .next { s.heard with
        st := { s.st with sendCredits := s.st.sendCredits + n.toNat, mrl := post } }) ∧
    (32768 ≤ (a - s.st.mirrorSeq).toNat → (∀ r ∈ s.st.mrl, r.seq ≠ a) →
      exec (.frameArrival (Frame.credit n a).bytes) s = .next { s.heard with
        st := { s.st with sendCredits := s.st.sendCredits + n.toNat } }) ∧
    ((a - s.st.mirrorSeq).toNat < 32768 →
      exec (.frameArrival (Frame.credit n a).bytes) s = .next { s.heard with
        st := { s.st with sendCredits := s.st.sendCredits + n.toNat }
        mgp := { s.mgp with
          counters := { s.mgp.counters with protocol := min 16777215 (s.mgp.counters.protocol + 1) } } })) ∧
  (∀ (n : Byte) (a : BitVec 16) (s : State),
    s.phase = .running → s.sc.linkUp = true → s.sending = true → 32 ≤ s.st.sendCredits + n.toNat →
    (a - s.st.mirrorSeq).toNat < 32768 →
    exec (.frameArrival (Frame.credit n a).bytes) s = .next { s.heard with
      st := { s.st with sendCredits := 32 }
      mgp := { s.mgp with
        counters := { s.mgp.counters with
          protocol := min 16777215 (s.mgp.counters.protocol + if 32 < s.st.sendCredits + n.toNat then 2 else 1) } } }) ∧
  (∀ (n : Byte) (a newest : BitVec 16) (kept : List MirrorRecord) (s : State),
    s.phase = .running → s.sc.linkUp = true → s.sending = true → 32 ≤ s.st.sendCredits + n.toNat →
    MrlConsecutive s → s.st.mrl.length ≤ 128 → 32768 ≤ (a - s.st.mirrorSeq).toNat →
    ((∀ r ∈ s.st.mrl, r.seq ≠ a) ∧ kept = s.st.mrl ∨ ∃ pre r, s.st.mrl = pre ++ r :: kept ∧ r.seq = a) →
    s.st.newestSent = some newest → 32768 ≤ (newest - s.st.mirrorSeq).toNat →
    ∃ t, exec (.frameArrival (Frame.credit n a).bytes) s = .next t ∧ t.st.sendCredits = 32 ∧
      t.st.mrl = kept.filter (fun r => 127 < (newest - r.seq).toNat) ∧
      (s.sc.releasePending = false →
        ∀ r ∈ kept, (newest - r.seq).toNat ≤ 127 → s.isOpen r.granule = false → t.entry r.granule ≠ some .copied) ∧
      (s.sc.releasePending = true → t.gm = s.gm ∧ t.se = s.se ∧ t.sc = s.sc) ∧
      t.mgp.counters.protocol = (if 32 < s.st.sendCredits + n.toNat then min 16777215 (s.mgp.counters.protocol + 1)
        else s.mgp.counters.protocol) ∧
      t.mgp.counters.losses =
        (if kept.any (fun r => decide ((newest - r.seq).toNat ≤ 127)) then min 16777215 (s.mgp.counters.losses + 1)
          else s.mgp.counters.losses))

/-- A NEED in a sending state before DETACH: NEEDS rises and the event is captured whatever the answer; a COPIED granule that is not
open is dirtied and counted in N_d, with the wake of a WAITING SOURCE or SYNC_LOST where it brings them, an open one marked stale, and
an EXCLUDED or outside one counts PROTOCOL (R10, R18, R74, R98, R174; the count of a wait is log 38). A LOSS(e, d): no record is
removed, LOSSES rises, every granule of a record it names is no longer COPIED unless it is the open one, and every granule of no such
record keeps its entry; with d at 0 or at or above 32,768 it names nothing, PROTOCOL rises and the event has no granule (R97). From the
acceptance of DETACH both count and capture in the same way and send no MARK-DIRTY, and a LOSS with such a d still counts PROTOCOL
(R99); that a NEED of an EXCLUDED or outside granule then counts no PROTOCOL is DEDUCED (log 23). -/
def Obligations.NeedAndLossTaken : Prop :=
  (∀ (g : BitVec 24) (s : State),
    s.phase = .running → s.sc.linkUp = true → s.sending = true →
    let frame := (Frame.need g).bytes
    let u : State := { s.heard with
      mgp := { s.mgp with
        counters := { s.mgp.counters with needs := min 16777215 (s.mgp.counters.needs + 1) }
        event := s.captured .need (some g.toNat) .absent } }
    (s.sc.releasePending = true → exec (.frameArrival frame) s = .next u) ∧
    (s.sc.releasePending = false →
      (s.entry g.toNat = some .copied → s.isOpen g.toNat = false →
        (s.sc.state ≠ .shadow → (s.d = 0 → s.se.waiting = false ∨ s.se.paused = true) →
          exec (.frameArrival frame) s = .next { u with gm := s.gmDirtied g.toNat }) ∧
        (s.sc.state ≠ .shadow → s.d = 0 → s.se.waiting = true → s.se.paused = false →
          exec (.frameArrival frame) s = .next { u with
            gm := { s.gmDirtied g.toNat with nc := 0, nd := 0 }
            se := s.seRinsing }) ∧
        (s.sc.state = .shadow → s.st.txq.length < 62 → s.st.pendingMarks = [] →
          exec (.frameArrival frame) s = .next { u with
            gm := { s.gmDirtied g.toNat with nc := 0, nd := 0, ndNext := 0 }
            se := s.seRinsing
            st := { s.st with txq := s.st.txq ++ [.frame (.mark s.sc.session .syncLost)] }
            sc := { s.sc with state := .rinse }
            cvu := { s.cvu with attempts := 0 }
            au := { s.au with latch := s.au.latch ||| 0x040#12 } })) ∧
      (s.isOpen g.toNat = true → (s.entry g.toNat = some .uncopied ∨ s.entry g.toNat = some .dirty) →
        exec (.frameArrival frame) s = .next { u with
          se := { s.se with opened := s.se.opened.map fun o => { o with stale := true } } }) ∧
      (s.isOpen g.toNat = false → (s.entry g.toNat = some .uncopied ∨ s.entry g.toNat = some .dirty) →
        exec (.frameArrival frame) s = .next u) ∧
      (s.entry g.toNat = none ∨ s.entry g.toNat = some .excluded →
        exec (.frameArrival frame) s = .next { u with
          mgp := { u.mgp with
            counters := { u.mgp.counters with protocol := min 16777215 (s.mgp.counters.protocol + 1) } } }))) ∧
  (∀ (e d : BitVec 16) (s : State), s.phase = .running → s.sc.linkUp = true → s.sending = true →
    let frame := (Frame.loss e d).bytes
    let losses := min 16777215 (s.mgp.counters.losses + 1)
    let named (r : MirrorRecord) : Bool := decide ((r.seq - e).toNat < d.toNat)
    (d ≠ 0 → d.toNat < 32768 → s.sc.releasePending = false →
      ∃ t, exec (.frameArrival frame) s = .next t ∧ t.st.mrl = s.st.mrl ∧ t.mgp.counters.losses = losses ∧
        (∀ r ∈ s.st.mrl, named r = true → s.isOpen r.granule = false → t.entry r.granule ≠ some .copied) ∧
        (∀ g, (∀ r ∈ s.st.mrl, named r = true → r.granule ≠ g) → t.entry g = s.entry g)) ∧
    (d ≠ 0 → d.toNat < 32768 → s.sc.releasePending = true →
      exec (.frameArrival frame) s = .next { s.heard with
        mgp := { s.mgp with
          counters := { s.mgp.counters with losses := losses }
          event := s.captured .loss ((s.st.mrl.find? named).map (·.granule)) (.sequence e) } }) ∧
    (d = 0 ∨ 32768 ≤ d.toNat →
      exec (.frameArrival frame) s = .next { s.heard with
        mgp := { s.mgp with
          counters := { s.mgp.counters with losses := losses, protocol := min 16777215 (s.mgp.counters.protocol + 1) }
          event := s.captured .loss none (.sequence e) } }))

/-- READY in CUTOVER while one is awaited: OK with D at 0 releases hold, enters SHADOW, clears the attempt count and raises
CUTOVER_DONE; RETRY, and OK with D above 0, restart the final scan under the same hold, the latter behind a SYNC_LOST mark. A READY
that is not awaited only counts READY_LATE (R122, R167, R168, R169). That the stopped hold timer keeps its count is the model's choice
(log 10). -/
def Obligations.ReadyTaken : Prop :=
  ∀ (ok : Bool) (s : State), s.phase = .running → s.sc.linkUp = true → s.sc.role = .source →
    let frame := (Frame.ready s.sc.session ok).bytes
    (s.sc.state = .cutover → s.sc.awaitingReady = true → ok = true → s.d = 0 →
      exec (.frameArrival frame) s = .next { s.heard with
        cp := { s.cp with hold := false }
        sc := { s.sc with
          state := .shadow
          holdTimer := ⟨false, s.sc.holdTimer.count⟩
          awaitingReady := false }
        cvu := { s.cvu with attempts := 0 }
        au := { s.au with latch := s.au.latch ||| 0x004#12 } }) ∧
    (s.sc.state = .cutover → s.sc.awaitingReady = true → 0 < s.d → s.st.txq.length < 62 → s.st.pendingMarks = [] →
      exec (.frameArrival frame) s = .next { s.heard with
        se := { s.se with running := true, waiting := false, scanIdx := 0 }
        sc := { s.sc with awaitingReady := false }
        st := { s.st with txq := s.st.txq ++ if ok then [.frame (.mark s.sc.session .syncLost)] else [] } }) ∧
    (s.sc.state = .cutover → s.sc.awaitingReady = true → ok = false → s.d = 0 → s.st.txq.length < 62 →
      s.st.pendingMarks = [] →
      exec (.frameArrival frame) s = .next { s.heard with
        se := { s.se with running := false, waiting := false, scanIdx := 0 }
        sc := { s.sc with awaitingReady := false }
        st := { s.st with txq := s.st.txq ++ [.frame (.mark s.sc.session .cutoverEnd)] } }) ∧
    (s.sc.state ≠ .cutover ∨ s.sc.awaitingReady = false →
      exec (.frameArrival frame) s = .next { s.heard with
        mgp := { s.mgp with
          counters := { s.mgp.counters with readyLate := min 16777215 (s.mgp.counters.readyLate + 1) } } })

/-- A REPLY in HANDSHAKE with the session number: a refusal shows START_FAIL and returns to IDLE; an acceptance stops the handshake
timer, loads and merges the peer fences, enters SWEEP and starts pass 0 at the plan's first extent (R13, R14, R61, R70, R130, R131).
With an empty plan pass 0 ends at its start, with its mark, record and alert, and CUTOVER, a rinse pass or WAITING follows (R71,
R73). The census taken from the merged map and the kept count of the stopped handshake timer are the model's choices (log 34, log
10). That the newest mirror sent stands through a refused handshake is DEDUCED (log 29). -/
def Obligations.ReplyMovesSession : Prop :=
  ∀ s : State, s.phase = .running → s.sc.linkUp = true → s.sourceIn .handshake = true →
    (∀ a, a ≠ .accept →
      exec (.frameArrival (Frame.reply s.sc.session a []).bytes) s = .next
        (({ s.heard with sc := { s.sc with startFail := some a } } : State).leftSource .idle s.st.newestSent)) ∧
    (∀ (fs : List WireFence) (m : List GranuleState), fs.length ≤ 8 → s.gm.map = some m →
      s.mgp.counters.protocol ≤ 16777215 →
      let reply := (Frame.reply s.sc.session .accept fs).bytes
      let peer := (fs.map WireFence.judged ++ List.replicate 8 none).take 8
      let merged := m.mapIdx fun i x => if fencesCover s.sc.params.span peer i then GranuleState.excluded else x
      let counted : Mgp := { s.mgp with
        counters := { s.mgp.counters with
          protocol := min 16777215 (s.mgp.counters.protocol + fs.countP fun f => f.judged.isNone) } }
      (∀ e rest, s.se.plan = e :: rest → exec (.frameArrival reply) s = .next { s with
        out := []
        gm := { s.gm with map := some merged, census := censusOf merged, nc := 0, nd := 0, ndNext := 0, peerFences := peer }
        se := { s.se with
          running := true
          passTimer := 0
          cursor := ⟨0, e.levels.map Level.count, some (e.first % s.sc.params.span), false⟩ }
        sr := { s.sr with silent := ⟨true, 0, 0⟩ }
        sc := { s.sc with state := .sweep, handshake := ⟨false, s.sc.handshake.count⟩ }
        mgp := counted }) ∧
      (s.se.plan = [] → s.se.opened = none → s.se.paused = false → s.st.txq.length < 48 → s.st.pendingMarks = [] →
        exec (.frameArrival reply) s = .next ({ s with
          out := []
          gm := { s.gm with map := some merged, census := censusOf merged, nc := 0, nd := 0, ndNext := 0, peerFences := peer }
          se := { s.se with running := true, passTimer := 0, cursor := ⟨0, [], none, true⟩ }
          sr := { s.sr with silent := ⟨true, 0, 0⟩ }
          sc := { s.sc with state := .sweep, handshake := ⟨false, s.sc.handshake.count⟩ }
          mgp := counted } : State).passEnded))

/-- A TAKEN with the session number in a sending state: the SOURCE does what link loss does, enters IDLE, sets no fault reason and
raises PEER_TAKEOVER alone; in another state or with another number it is discarded. ABORT does the same with no alert from every
state but IDLE; in IDLE it changes nothing, and it takes a TARGET in any other state to IDLE with SYNCED and UNSYNCED_TAKEOVER as
they were (R138, R145, R146). That the stopped timers, the handshake timer among them, keep their counts is the model's choice (log
10). That the clean flag of a TARGET stands is DEDUCED (log 30). -/
def Obligations.TakenAndAbort : Prop :=
  ∀ s : State, s.phase = .running →
    (s.sc.role = .source → s.sc.linkUp = true → s.sending = true →
      exec (.frameArrival (Frame.taken s.sc.session).bytes) s = .next { s.heard.leftSource .idle none with
        au := { s.au with latch := s.au.latch ||| 0x400#12 } }) ∧
    (∀ n, s.sc.role = .source → s.sc.linkUp = true → (s.sending = false ∨ n ≠ s.sc.session) →
      exec (.frameArrival (Frame.taken n).bytes) s = .next { s.heard with
        mgp := { s.mgp with
          counters := { s.mgp.counters with discarded := min 16777215 (s.mgp.counters.discarded + 1) }
          event := s.captured .discard none (.frameKind 0x16) } }) ∧
    (s.sc.state = .idle → exec (.abort []) s = .next (s.replying false false .ok [])) ∧
    (s.sc.role = .source → s.sc.state ≠ .idle →
      exec (.abort []) s = .next ((s.leftSource .idle none).replying false false .ok [])) ∧
    (s.sc.role = .target → s.sc.state ≠ .idle →
      exec (.abort []) s = .next (s.leftTarget.replying false false .ok []))

/-! ### Frames at a TARGET -/

/-- HELLO at a TARGET. In LISTEN with a place in the return list: with the TARGET's span it is accepted with the occupied local fences,
SR's session state is set and FILLING entered; with another span it is refused and nothing else changes; at a full return list it is
discarded (R15, R106, R107, R126, R133). In FAULT it is counted as a discard and answered REFUSE_STATE if the list has room; in FILLING and
SHADOW it is so answered from the head, counted as a discard, clears the clean flag and ends SHADOW, and waits at the head where the list is
full (R105, R107, R119, R121). That it is counted and captured at its processing, ahead of that wait, is the model's choice (log 40). -/
def Obligations.HelloAtTarget : Prop :=
  ∀ (n : Byte) (span : BitVec 24) (q : BitVec 16) (s : State),
    s.phase = .running → s.sc.linkUp = true →
    let frame := (Frame.hello n span q).bytes
    let dropped : Mgp := { s.mgp with
      counters := { s.mgp.counters with discarded := min 16777215 (s.mgp.counters.discarded + 1) }
      event := s.captured .discard none (.frameKind 0x01) }
    let refusal : Frame := .reply n .refuseState []
    (s.targetIn .listen = true → s.st.returnList.length < 16 → span.toNat = s.sc.params.span →
      exec (.frameArrival frame) s = .next { s with
        out := []
        sc := { s.sc with session := n, state := .filling }
        sr := { s.sr with
          buffer := []
          head := none
          latch := none
          expected := q
          lastGranted := q - 1
          clean := false
          freed := 1
          creditDue := false
          failedApply := []
          lastReport := none
          silent := ⟨true, 0, 0⟩ }
        st := { s.st with
          keepalive := ⟨true, 0⟩
          returnList := s.st.returnList ++ [.reply n .accept (replyFences s.gm.localFences)] } }) ∧
    (s.targetIn .listen = true → s.st.returnList.length < 16 → span.toNat ≠ s.sc.params.span →
      exec (.frameArrival frame) s = .next { s.heard with
        st := { s.st with returnList := s.st.returnList ++ [.reply n .refuseSpan []] } }) ∧
    (s.targetIn .listen = true → 16 ≤ s.st.returnList.length →
      exec (.frameArrival frame) s = .next { s.heard with mgp := dropped }) ∧
    (s.targetIn .fault = true →
      exec (.frameArrival frame) s = .next { s.heard with
        mgp := dropped
        st := { s.st with
          returnList := if s.st.returnList.length < 16 then s.st.returnList ++ [refusal] else s.st.returnList } }) ∧
    (s.receiving = true → s.sr.buffer = [] → s.sr.head = none →
      let filling : Sc := { s.sc with
        state := .filling
        unsynced := s.sc.unsynced || (s.sc.state == .shadow && s.sc.takeoverPending) }
      (16 ≤ s.st.returnList.length → exec (.frameArrival frame) s = .next { s.heard with
        mgp := dropped
        sr := { s.heard.sr with buffer := [.hello n span q], head := some ⟨[.refuse n], none⟩, clean := false }
        sc := filling }) ∧
      (s.listening → exec (.frameArrival frame) s = .next { s.heard with
        mgp := dropped
        sr := { s.heard.sr with freed := s.sr.freed + 1, clean := false }
        st := { s.st with returnList := s.st.returnList ++ [refusal] }
        sc := filling }))

/-- OPEN, LINE and CLOSE at the head of an empty receive buffer: an OPEN in the image sets the latch, and first sends NEED for a latch
left incomplete; one outside it empties the latch and is discarded; a LINE under the latch outside the fences is counted and offered as
a whole write, or as a poisoned one; a fenced LINE is PROTECTED, and one that the latch does not match is discarded; a CLOSE of a whole
granule ends it with no answer, and any other CLOSE sends NEED and clears the clean flag (R109, R110, R111, R119). That the count of
lines applied has no cap, and is complete at every value of 1,024 or more, is the model's choice (log 39). -/
def Obligations.GranuleFramesAtTarget : Prop :=
  ∀ s : State, s.listening →
    let filling : Sc := { s.sc with
      state := .filling
      unsynced := s.sc.unsynced || (s.sc.state == .shadow && s.sc.takeoverPending) }
    let dropped (granule : Option Nat) (detail : Detail) : Mgp := { s.mgp with
      counters := { s.mgp.counters with discarded := min 16777215 (s.mgp.counters.discarded + 1) }
      event := s.captured .discard granule detail }
    (∀ (g : BitVec 24) (o : Byte), (∀ l, s.sr.latch = some l → 1024 ≤ l.applied) →
      (g.toNat < s.sc.params.span →
        exec (.frameArrival (Frame.opening g o).bytes) s = .next { s.heard with
          sr := { s.heard.sr with latch := some ⟨g.toNat, o, 0⟩, freed := s.sr.freed + 1 } }) ∧
      (s.sc.params.span ≤ g.toNat →
        exec (.frameArrival (Frame.opening g o).bytes) s = .next { s.heard with
          sr := { s.heard.sr with latch := none, freed := s.sr.freed + 1, clean := false }
          sc := filling
          mgp := dropped (some g.toNat) .absent })) ∧
    (∀ (g : BitVec 24) (o : Byte) (l : Latch), s.sr.latch = some l → l.applied < 1024 → g.toNat < s.sc.params.span →
      exec (.frameArrival (Frame.opening g o).bytes) s = .next { s.heard with
        sr := { s.heard.sr with latch := some ⟨g.toNat, o, 0⟩, freed := s.sr.freed + 1, clean := false }
        st := { s.st with returnList := s.st.returnList ++ [.need (BitVec.ofNat 24 l.granule)] }
        sc := filling
        mgp := { s.mgp with
          counters := { s.mgp.counters with needs := min 16777215 (s.mgp.counters.needs + 1) }
          event := s.captured .need (some l.granule) .absent } }) ∧
    (∀ (g : BitVec 24) (o : Byte) (l : Latch), s.sr.latch = some l → l.applied < 1024 → s.sc.params.span ≤ g.toNat →
      exec (.frameArrival (Frame.opening g o).bytes) s = .next { s.heard with
        sr := { s.heard.sr with latch := none, freed := s.sr.freed + 1, clean := false }
        st := { s.st with returnList := s.st.returnList ++ [.need (BitVec.ofNat 24 l.granule)] }
        sc := filling
        mgp := { s.mgp with
          counters := { s.mgp.counters with
            needs := min 16777215 (s.mgp.counters.needs + 1)
            discarded := min 16777215 (s.mgp.counters.discarded + 1) }
          event := ⟨.discard, some g.toNat, .absent, s.eventPass, true, true⟩ } }) ∧
    (∀ (l : Latch) (poison : Bool) (i : BitVec 10) (d : LineData), d.length = 64 → s.sr.latch = some l →
      s.localCovers l.granule = false →
      exec (.frameArrival (Frame.line l.openNo poison i d).bytes) s = .next { s.heard with
        sr := { s.heard.sr with
          latch := some { l with applied := l.applied + 1 }
          buffer := [.line l.openNo poison i d]
          head := some ⟨[], some ⟨poison, BitVec.ofNat 30 (l.granule * 1024 + i.toNat), BitVec.allOnes 64, d, l.granule,
            none⟩⟩ } }) ∧
    (∀ (l : Latch) (poison : Bool) (i : BitVec 10) (d : LineData), d.length = 64 → s.sr.latch = some l →
      s.localCovers l.granule = true →
      exec (.frameArrival (Frame.line l.openNo poison i d).bytes) s = .next { s.heard with
        sr := { s.heard.sr with freed := s.sr.freed + 1, clean := false }
        sc := filling
        mgp := { s.mgp with
          counters := { s.mgp.counters with protect := min 16777215 (s.mgp.counters.protect + 1) }
          event := s.captured .protect (some l.granule) (.lineAddr (l.granule * 1024 + i.toNat)) } }) ∧
    (∀ (o : Byte) (poison : Bool) (i : BitVec 10) (d : LineData), d.length = 64 →
      (∀ l, s.sr.latch = some l → l.openNo ≠ o) →
      exec (.frameArrival (Frame.line o poison i d).bytes) s = .next { s.heard with
        sr := { s.heard.sr with freed := s.sr.freed + 1, clean := false }
        sc := filling
        mgp := match s.sr.latch with
          | some l => dropped (some l.granule) (.lineAddr (l.granule * 1024 + i.toNat))
          | none => dropped none .absent }) ∧
    (∀ (g : BitVec 24) (o : Byte) (n : Nat), 1024 ≤ n → s.sr.latch = some ⟨g.toNat, o, n⟩ →
      exec (.frameArrival (Frame.close g o).bytes) s = .next { s.heard with
        sr := { s.heard.sr with latch := none, freed := s.sr.freed + 1 } }) ∧
    (∀ (g : BitVec 24) (o : Byte), (∀ n, 1024 ≤ n → s.sr.latch ≠ some ⟨g.toNat, o, n⟩) →
      exec (.frameArrival (Frame.close g o).bytes) s = .next { s.heard with
        sr := { s.heard.sr with latch := none, freed := s.sr.freed + 1, clean := false }
        st := { s.st with returnList := s.st.returnList ++ [.need g] }
        sc := filling
        mgp := { s.mgp with
          counters := { s.mgp.counters with needs := min 16777215 (s.mgp.counters.needs + 1) }
          event := s.captured .need (some g.toNat) .absent } })

/-- A MIRROR at the head of an empty receive buffer: in sequence, in the image and not fenced it is offered for apply with its own
mask; after a gap of d mirrors LOSS(E, d) is sent first and the clean flag cleared; outside the image it is discarded and under a fence
PROTECTED, E moving past it in either case; one already received is discarded and E stands, whatever its granule (R112, R113, R119). -/
def Obligations.MirrorAtTarget : Prop :=
  ∀ (q : BitVec 16) (a : BitVec 32) (m : ByteMask) (d : LineData) (s : State), s.listening → d.length = 64 →
    let g := a.toNat / 1024
    let gap := q - s.sr.expected
    let offered : Option Head := some ⟨[], some ⟨false, a.setWidth 30, m, d, g, some q⟩⟩
    let filling : Sc := { s.sc with
      state := .filling
      unsynced := s.sc.unsynced || (s.sc.state == .shadow && s.sc.takeoverPending) }
    let discarded := min 16777215 (s.mgp.counters.discarded + 1)
    (g < s.sc.params.span → s.localCovers g = false → gap = 0 →
      exec (.frameArrival (Frame.mirror q a m d).bytes) s = .next { s.heard with
        sr := { s.heard.sr with expected := q + 1, buffer := [.mirror q a m d], head := offered } }) ∧
    (g < s.sc.params.span → s.localCovers g = false → gap ≠ 0 → gap.toNat < 32768 →
      exec (.frameArrival (Frame.mirror q a m d).bytes) s = .next { s.heard with
        sr := { s.heard.sr with expected := q + 1, buffer := [.mirror q a m d], head := offered, clean := false }
        st := { s.st with returnList := s.st.returnList ++ [.loss s.sr.expected gap] }
        sc := filling
        mgp := { s.mgp with
          counters := { s.mgp.counters with losses := min 16777215 (s.mgp.counters.losses + 1) }
          event := s.captured .loss (some g) (.sequence s.sr.expected) } }) ∧
    (gap.toNat < 32768 →
      let ahead : State := { s.heard with
        sr := { s.heard.sr with expected := q + 1, freed := s.sr.freed + 1, clean := false }
        st := { s.st with returnList := s.st.returnList ++ if gap = 0 then [] else [.loss s.sr.expected gap] }
        sc := filling }
      let losses := if gap = 0 then s.mgp.counters.losses else min 16777215 (s.mgp.counters.losses + 1)
      let overrun := s.mgp.event.overrun || s.mgp.event.unread || decide (gap ≠ 0)
      (s.sc.params.span ≤ g → exec (.frameArrival (Frame.mirror q a m d).bytes) s = .next { ahead with
        mgp := { s.mgp with
          counters := { s.mgp.counters with losses := losses, discarded := discarded }
          event := ⟨.discard, some g, .sequence q, s.eventPass, true, overrun⟩ } }) ∧
      (s.localCovers g = true → exec (.frameArrival (Frame.mirror q a m d).bytes) s = .next { ahead with
        mgp := { s.mgp with
          counters := { s.mgp.counters with losses := losses, protect := min 16777215 (s.mgp.counters.protect + 1) }
          event := ⟨.protect, some g, .lineAddr a.toNat, s.eventPass, true, overrun⟩ } })) ∧
    (32768 ≤ gap.toNat →
      exec (.frameArrival (Frame.mirror q a m d).bytes) s = .next { s.heard with
        sr := { s.heard.sr with freed := s.sr.freed + 1, clean := false }
        sc := filling
        mgp := { s.mgp with
          counters := { s.mgp.counters with discarded := discarded }
          event := s.captured .discard (some g) (.sequence q) } })

/-- Marks at the head of an empty receive buffer. With the latch settled: CUTOVER_BEGIN sets the clean flag; CUTOVER_END in FILLING
is answered READY(OK) with SHADOW if the flag is set, READY(RETRY) with the flag set again otherwise, and in SHADOW it is discarded;
SYNC_LOST and CUTOVER_ABORT end SHADOW; RELEASE in SHADOW enters IDLE with SYNCED, unless UNSYNCED_TAKEOVER is set, and RELEASED; in
FILLING it enters FAULT; a mark of another session is discarded (R118, R120, R141, R142). With TAKEOVER_PENDING a RELEASE completes
the takeover without TAKEN, from SHADOW with SYNCED as above and from FILLING without it (R141, R144), and every return from SHADOW
to FILLING sets UNSYNCED_TAKEOVER (R143). Over an incomplete latch PASS_END, CUTOVER_BEGIN and CUTOVER_END first send NEED for its
granule and empty it, so that CUTOVER_END is answered RETRY (R111, R118). That CUTOVER_END in SHADOW settles the latch before it is
discarded is DEDUCED (log 18); that every count of 1,024 lines or more is complete (log 39) and the counts of stopped timers (log
10) are the model's choices. That the clean flag stands at the entry into IDLE and FAULT is DEDUCED (log 30). -/
def Obligations.MarksAtTarget : Prop :=
  ∀ s : State, s.listening →
    let mark (k : MarkKind) : List Byte := (Frame.mark s.sc.session k).bytes
    let filling : Sc := { s.sc with
      state := .filling
      unsynced := s.sc.unsynced || (s.sc.state == .shadow && s.sc.takeoverPending) }
    let dropped : Mgp := { s.mgp with
      counters := { s.mgp.counters with discarded := min 16777215 (s.mgp.counters.discarded + 1) }
      event := s.captured .discard none (.frameKind 0x06) }
    ((∀ l, s.sr.latch = some l → 1024 ≤ l.applied) →
      (∀ a, exec (.frameArrival (mark (.cutoverBegin a))) s = .next { s.heard with
        sr := { s.heard.sr with latch := none, clean := true, freed := s.sr.freed + 1 } }) ∧
      (∀ p d, exec (.frameArrival (mark (.passEnd p d))) s = .next { s.heard with
        sr := { s.heard.sr with
          latch := none
          lastReport := some ⟨p.toNat, d.toNat⟩
          freed := s.sr.freed + 1 } }) ∧
      (s.sc.state = .filling → s.sr.clean = true →
        exec (.frameArrival (mark .cutoverEnd)) s = .next { s.heard with
          sr := { s.heard.sr with latch := none, freed := s.sr.freed + 1 }
          st := { s.st with returnList := s.st.returnList ++ [.ready s.sc.session true] }
          sc := { s.sc with state := .shadow } }) ∧
      (s.sc.state = .filling → s.sr.clean = false →
        exec (.frameArrival (mark .cutoverEnd)) s = .next { s.heard with
          sr := { s.heard.sr with latch := none, clean := true, freed := s.sr.freed + 1 }
          st := { s.st with returnList := s.st.returnList ++ [.ready s.sc.session false] } }) ∧
      (s.sc.state = .shadow →
        exec (.frameArrival (mark .cutoverEnd)) s = .next { s.heard with
          sr := { s.heard.sr with latch := none, clean := false, freed := s.sr.freed + 1 }
          sc := filling
          mgp := dropped })) ∧
    (∀ l, s.sr.latch = some l → l.applied < 1024 →
      let need : Frame := .need (BitVec.ofNat 24 l.granule)
      let settled : State := { s.heard with
        sr := { s.heard.sr with latch := none, clean := false, freed := s.sr.freed + 1 }
        st := { s.st with returnList := s.st.returnList ++ [need] }
        sc := filling
        mgp := { s.mgp with
          counters := { s.mgp.counters with needs := min 16777215 (s.mgp.counters.needs + 1) }
          event := s.captured .need (some l.granule) .absent } }
      (∀ a, exec (.frameArrival (mark (.cutoverBegin a))) s = .next { settled with
        sr := { settled.sr with clean := true } }) ∧
      (∀ p d, exec (.frameArrival (mark (.passEnd p d))) s = .next { settled with
        sr := { settled.sr with lastReport := some ⟨p.toNat, d.toNat⟩ } }) ∧
      (s.sc.state = .filling → exec (.frameArrival (mark .cutoverEnd)) s = .next { settled with
        sr := { settled.sr with clean := true }
        st := { s.st with returnList := s.st.returnList ++ [need, .ready s.sc.session false] } })) ∧
    (∀ k, (k = .syncLost ∨ ∃ a, k = .cutoverAbort a) →
      exec (.frameArrival (mark k)) s = .next { s.heard with
        sr := { s.heard.sr with freed := s.sr.freed + 1 }
        sc := filling }) ∧
    (s.sc.state = .shadow →
      exec (.frameArrival (mark .release)) s = .next { s.heard.leftTarget with
        sc := { s.leftTarget.sc with synced := s.sc.synced || !s.sc.unsynced }
        au := { s.au with latch := s.au.latch ||| 0x800#12 } }) ∧
    (s.sc.state = .filling → s.sc.takeoverPending = true →
      exec (.frameArrival (mark .release)) s = .next s.heard.leftTarget) ∧
    (s.sc.state = .filling → s.sc.takeoverPending = false →
      exec (.frameArrival (mark .release)) s = .next { s.heard with
        sr := { s.heard.sr with
          freed := s.sr.freed + 1
          silent := { s.heard.sr.silent with running := false } }
        st := { s.st with returnList := [], keepalive := ⟨false, s.st.keepalive.count⟩ }
        sc := { s.sc with state := .fault, faultReason := some .releasedUnsynced }
        au := { s.au with latch := s.au.latch ||| 0x200#12 } }) ∧
    (∀ n k, n ≠ s.sc.session →
      exec (.frameArrival (Frame.mark n k).bytes) s = .next { s.heard with
        sr := { s.heard.sr with clean := false, freed := s.sr.freed + 1 }
        sc := filling
        mgp := dropped })

/-! ### The management line -/

/-- A refused command changes the reply buffer, the last result code, the arm latch of a guarded command and the reset-enable
latch, and nothing else: a guarded command clears the arm latch whatever code refuses it (R180), and a refused command clears the
reset-enable latch (R189). A guarded command that finds the arm latch clear is refused with UNARMED, a byte that names no command with
UNKNOWN, whatever their parameters, and a command with the wrong number of parameter bytes with PARAM before its own checks (R179).
R189 says this of every command other than RESET_ENABLE; that a RESET_ENABLE refused for its parameter count clears the reset-enable
latch too is DEDUCED (log 20). -/
def Obligations.RefusedCommandChangesNothingElse : Prop :=
  ∀ (c : Instr) (s : State), s.phase = .running →
    (c.managed = true → ∃ t, exec c s = .next t ∧
      (t.mgp.lastResult ≠ .ok → t = s.replying c.guarded false t.mgp.lastResult [] ∧ t.mgp.reply.code = t.mgp.lastResult)) ∧
    (c.guarded = true → s.mgp.armLatch = false → exec c s = .next (s.replying true false .unarmed [])) ∧
    (∀ ps n, c.layout = some (ps, n) → ps.length ≠ n → (c.guarded = true → s.mgp.armLatch = true) →
      exec c s = .next (s.replying c.guarded false .param [])) ∧
    (∀ b ps, c = .unknown b ps → exec c s = .next (s.replying false false .unknown []))

/-- STATUS, READ_CURSOR, READ_PASS and READ_MAP answer OK with their records, of 87, 33, 24 and 2 bytes, and change nothing else;
READ_MAP refuses a granule above 1,048,575 with PARAM (R19, R82, R159, R182, R199). The records hold their fields at the offsets and
with the codes of 11.3; the cursor reply of a TARGET holds the plan length and the values after reset (R82), a TARGET answers
READ_PASS with the cleared record, whatever record an ended session as a SOURCE left, and every other role with the record as it
stands (R149, R159; the test point of a cleared record is log 41), and the pass number and SE's flags in STATUS are stated for a
part that is no TARGET (log 42). -/
def Obligations.ReadsReturnRecords : Prop :=
  ∀ s : State, s.phase = .running →
    exec (.status []) s = .next (s.replying false false .ok s.statusRecord) ∧ s.statusRecord.length = 87 ∧
    exec (.readCursor []) s = .next (s.replying false false .ok s.cursorReply) ∧
    s.cursorReply.length = 33 ∧
    (s.sc.role ≠ .target → exec (.readPass []) s = .next (s.replying false false .ok s.cvu.record.bytes)) ∧
    (s.sc.role = .target → exec (.readPass []) s = .next (s.replying false false .ok (List.replicate 24 0))) ∧
    s.cvu.record.bytes.length = 24 ∧
    (∀ ps, ps.length = 3 → fromBytes ps < 1048576 →
      exec (.readMap ps) s = .next (s.replying false false .ok (s.mapReply (fromBytes ps))) ∧
        (s.mapReply (fromBytes ps)).length = 2) ∧
    (∀ ps, ps.length = 3 → 1048576 ≤ fromBytes ps → exec (.readMap ps) s = .next (s.replying false false .param [])) ∧
    (let num (off n : Nat) : Nat := field s.statusRecord off n
     let bit (off i : Nat) : Bool := (field s.statusRecord off 1).testBit i
     [Role.none, .source, .target][num 0 1]? = some s.sc.role ∧
     [SessionState.idle, .listen, .handshake, .sweep, .rinse, .cutover, .shadow, .filling, .fault][num 1 1]? =
       some s.sc.state ∧
     num 2 1 = s.sc.session.toNat ∧
     (List.range 8).map (bit 3) = [s.sc.linkUp, s.sc.releasePending, s.sc.takeoverPending, s.sc.startFail.isSome,
       s.sc.synced, s.sc.unsynced, s.mgp.armLatch, s.alertLine] ∧
     (s.sc.startFail ≠ some .accept →
       [none, some ReplyAnswer.refuseSpan, some .refuseState][num 4 1]? = some s.sc.startFail) ∧
     [none, some FaultReason.handshakeTimeout, some .linkDown, some .silent, some .releasedUnsynced,
       some .answerLost][num 5 1]? = some s.sc.faultReason ∧
     num 6 2 = s.sc.handshake.count % 2 ^ 16 ∧
     [Role.none, .source, .target][num 8 1]? = some s.sc.role ∧ num 9 3 = s.sc.params.span % 2 ^ 24 ∧
     num 12 1 = s.sc.params.manual.toNat ∧ num 13 1 = s.sc.params.stall.toNat ∧ num 14 2 = s.sc.params.dMax % 2 ^ 16 ∧
     num 16 2 = s.sc.params.hLimit % 2 ^ 16 ∧ num 18 2 = s.sc.params.qAllow % 2 ^ 16 ∧
     num 20 2 = s.sc.params.ki % 2 ^ 16 ∧ num 22 1 = s.sc.params.sl % 2 ^ 8 ∧ num 23 1 = s.sc.params.share % 2 ^ 8 ∧
     (s.sc.role ≠ .target → num 24 2 = s.se.passNo % 2 ^ 16 ∧
       (List.range 4).map (bit 26) = [s.se.running, s.se.waiting, s.se.paused, s.se.deferred]) ∧
     num 27 3 = s.gm.census.uncopied % 2 ^ 24 ∧ num 30 3 = s.gm.census.copied % 2 ^ 24 ∧
     num 33 3 = s.gm.census.dirty % 2 ^ 24 ∧ num 36 3 = s.gm.census.excluded % 2 ^ 24 ∧
     [LockMode.unlocked, .strap, .session][num 39 1]? = some s.gm.lock ∧
     (s.sc.role = .source → num 40 1 = 0 ∧ num 41 2 = 0 ∧ num 43 3 = 0 ∧ num 46 1 = 0) ∧
     (s.sc.role ≠ .source → bit 40 0 = s.sr.lastReport.isSome ∧ bit 40 1 = s.sr.overflow ∧
       num 41 2 = ((s.sr.lastReport.map (·.pass)).getD 0) % 2 ^ 16 ∧
       num 43 3 = ((s.sr.lastReport.map (·.d)).getD 0) % 2 ^ 24 ∧ num 46 1 = s.sr.buffer.length % 2 ^ 8) ∧
     num 47 1 = s.st.sendCredits % 2 ^ 8 ∧ num 48 1 = s.st.txq.length % 2 ^ 8 ∧
     num 49 1 = s.st.pendingMarks.length % 2 ^ 8 ∧ num 50 1 = s.st.mrl.length % 2 ^ 8 ∧
     num 51 1 = s.cvu.share % 2 ^ 8 ∧ num 52 1 = s.sc.params.share % 2 ^ 8 ∧
     bit 53 0 = s.cvu.armed ∧ (s.cvu.attempts ≤ 3 → num 53 1 / 2 = s.cvu.attempts) ∧
     [ResultCode.ok, .state, .unarmed, .locked, .param, .unknown][num 54 1]? = some s.mgp.lastResult ∧
     [none, some ResetKind.powerOn, some .line, some .command][num 55 1]? = some (some s.mgp.cause) ∧
     num 56 2 = s.au.latch.toNat ∧ num 58 2 = s.au.mask.toNat ∧
     (∀ (i : Nat) (k : Counter), [Counter.degraded, .discarded, .protect, .protocol, .poisoned, .needs, .losses,
       .refusedWrites, .readyLate][i]? = some k → num (60 + 3 * i) 3 = s.mgp.counters.get k % 2 ^ 24)) ∧
    (let num (off n : Nat) : Nat := field s.cursorReply off n
     let bit (off i : Nat) : Bool := (field s.cursorReply off 1).testBit i
     num 0 1 = s.se.plan.length % 2 ^ 8 ∧
     (s.sc.role = .target → s.cursorReply.tail = List.replicate 32 0) ∧
     (s.sc.role ≠ .target →
       num 1 1 = s.se.cursor.extent % 2 ^ 8 ∧ num 2 1 = s.se.cursor.remaining.length % 2 ^ 8 ∧
       (∀ i, i < 3 → num (3 + 2 * i) 2 = s.se.cursor.remaining.getD i 0 % 2 ^ 16) ∧
       num 9 3 = s.se.cursor.next.getD 0 % 2 ^ 24 ∧
       (List.range 4).map (bit 12) = [s.se.cursor.done, s.se.cursor.next.isSome, s.se.opened.isSome,
         s.se.opened.any (·.stale)] ∧
       (List.range 4).map (bit 13) = [s.se.running, s.se.waiting, s.se.paused, s.se.deferred] ∧
       num 14 3 = s.se.scanIdx % 2 ^ 24 ∧ num 17 2 = s.se.passNo % 2 ^ 16 ∧ num 19 3 = s.se.passTimer % 2 ^ 24 ∧
       num 22 1 = s.se.openNo.toNat ∧
       (s.se.opened = none → s.cursorReply.drop 23 = List.replicate 10 0) ∧
       (∀ r, s.se.opened = some r → num 23 3 = r.granule % 2 ^ 24 ∧ num 26 1 = r.openNo.toNat ∧
         num 27 2 = r.nextLine % 2 ^ 16 ∧ num 29 2 = r.returned % 2 ^ 16 ∧ num 31 2 = r.poison % 2 ^ 16))) ∧
    (let r := s.cvu.record
     let num (off n : Nat) : Nat := field r.bytes off n
     (List.range 4).map (num 0 1).testBit = [r.valid, r.cHeld, r.eligible, r.converging] ∧
     [TestPoint.passEnd, .deferred, .resume, .command][num 1 1]? = some r.point ∧
     num 2 2 = r.passNo % 2 ^ 16 ∧ num 4 3 = r.t % 2 ^ 24 ∧ num 7 3 = r.nc % 2 ^ 24 ∧ num 10 3 = r.nd % 2 ^ 24 ∧
     num 13 3 = r.d % 2 ^ 24 ∧ num 16 2 = r.c % 2 ^ 16 ∧ num 18 2 = r.r % 2 ^ 16 ∧ num 20 3 = r.h % 2 ^ 24 ∧
     num 23 1 = r.streak % 2 ^ 8) ∧
    (∀ g, [some GranuleState.uncopied, some .copied, some .dirty, some .excluded, none][field (s.mapReply g) 0 1]? =
        some (s.entry g) ∧
      (List.range 4).map (field (s.mapReply g) 1 1).testBit =
        [s.se.opened.any (·.granule == g), s.se.opened.any (fun r => r.granule == g && r.stale), s.localCovers g,
          s.peerCovers g])

/-- The arm latch: ARM sets it, DISARM clears it, every guarded command clears it whatever its result, every other command of the
line leaves it but for an accepted RESET, every reset clears it, and the status record shows it (R180). -/
def Obligations.ArmLatch : Prop :=
  ∀ s : State, s.phase = .running →
    exec (.arm []) s = .next { s.replying false false .ok [] with
      mgp := { (s.replying false false .ok []).mgp with armLatch := true } } ∧
    exec (.disarm []) s = .next { s.replying false false .ok [] with
      mgp := { (s.replying false false .ok []).mgp with armLatch := false } } ∧
    (∀ c t, c.guarded = true → exec c s = .next t → t.mgp.armLatch = false) ∧
    (∀ c t, c.managed = true → c.guarded = false → (∀ ps, c ≠ .arm ps ∧ c ≠ .disarm ps ∧ c ≠ .reset ps) →
      exec c s = .next t → t.mgp.armLatch = s.mgp.armLatch) ∧
    (∀ ps t, exec (.reset ps) s = .next t → t.mgp.armLatch = (s.mgp.armLatch && decide (t.mgp.lastResult ≠ .ok))) ∧
    (∀ t, (exec .powerOn s = .next t ∨ exec .lineReset s = .next t) → t.mgp.armLatch = false) ∧
    s.statusRecord[3]? = some (BitVec.ofNat 8 s.statusFlags) ∧ s.statusFlags.testBit 6 = s.mgp.armLatch

/-- The reset-enable latch and the COMMAND reset: RESET_ENABLE sets the latch and every other command of the line clears it; RESET
without it is refused with STATE; with it the part keeps its ports, role, session number, parameters, link state, plan, local
fences and lock, ends the session and takes its first values elsewhere (R20, R40, R41, R83, R102, R124, R148, R161, R189, R192,
R194). The counts 0 of the stopped timers and the kept queue of waiting commands are the model's choice (log 10, log 37). -/
def Obligations.CommandReset : Prop :=
  ∀ s : State, s.phase = .running →
    exec (.resetEnable []) s = .next (s.replying false true .ok []) ∧
    (∀ c t, c.managed = true → (∀ ps, c ≠ .resetEnable ps) → exec c s = .next t → t.mgp.resetEnable = false) ∧
    (s.mgp.resetEnable = false → exec (.reset []) s = .next (s.replying false false .state [])) ∧
    (s.mgp.resetEnable = true → exec (.reset []) s = .next { State.reset with
      phase := .running
      cp := { s.cp with hold := false }
      mp := { credits := s.mp.credits, table := s.droppedTable, k := 0 }
      gm := { State.reset.gm with localFences := s.gm.localFences, lock := s.gm.lock }
      se := { State.reset.se with plan := s.se.plan }
      sc := { State.reset.sc with
        role := s.sc.role
        session := s.sc.session
        params := s.sc.params
        linkUp := s.sc.linkUp }
      cvu := { State.reset.cvu with share := s.sc.params.share }
      mgp := { State.reset.mgp with straps := s.mgp.straps, cause := .command }
      pending := s.pending })

/-- SET_SESSION in IDLE replaces the whole set: the judged fields as given, the others brought into range, the share in use with
them, and the map removed for a TARGET or another span; a part that becomes a TARGET has its armed flag clear, its attempt count 0
and the held C and streak of no session (R149; that they are cleared at this command is DEDUCED, log 43), while the record of an
ended session stands in every role, for reading until the next START or reset (R159); a bad role, span, mode or policy is refused
with PARAM, and every other state with STATE. SET_SHARE is accepted in every role and state with its value clamped to 1 … 15, which
becomes the share in use and the share parameter and touches nothing else (R4, R156, R181). -/
def Obligations.SetSession : Prop :=
  ∀ (role mode policy sl share : Byte) (span : BitVec 24) (dMax hLimit qAllow ki : BitVec 16) (s : State),
    s.phase = .running →
    exec (.setShare [share]) s = .next { s.replying false false .ok [] with
      cvu := { s.cvu with share := max 1 (min 15 share.toNat) }
      sc := { s.sc with params := { s.sc.params with share := max 1 (min 15 share.toNat) } } } ∧
    let ps := [role] ++ toBytes 3 span.toNat ++ [mode, policy] ++ toBytes 2 dMax.toNat ++ toBytes 2 hLimit.toNat ++
      toBytes 2 qAllow.toNat ++ toBytes 2 ki.toNat ++ [sl, share]
    let sound := role.toNat ≤ 2 ∧ 1 ≤ span.toNat ∧ span.toNat ≤ 1048576 ∧ mode.toNat ≤ 1 ∧ policy.toNat ≤ 1
    let newRole : Role := if role = 0 then .none else if role = 1 then .source else .target
    let newShare := max 1 (min 15 share.toNat)
    (s.sc.state ≠ .idle → exec (.setSession ps) s = .next (s.replying false false .state [])) ∧
    (s.sc.state = .idle → ¬ sound → exec (.setSession ps) s = .next (s.replying false false .param [])) ∧
    (s.sc.state = .idle → sound → exec (.setSession ps) s = .next { s.replying false false .ok [] with
      gm := if newRole = .target ∨ s.gm.map.any (fun m => m.length != span.toNat) = true
        then { s.gm with map := none, census := ⟨0, 0, 0, 0⟩ } else s.gm
      cvu := if newRole = .target then { State.reset.cvu with share := newShare, record := s.cvu.record }
        else { s.cvu with share := newShare }
      sc := { s.sc with
        role := newRole
        params :=
          { span := span.toNat
            manual := decide (mode = 1)
            stall := decide (policy = 1)
            dMax := dMax.toNat
            hLimit := max 50 (min 20000 hLimit.toNat)
            qAllow := qAllow.toNat
            ki := max 10 (min 1000 ki.toNat)
            sl := max 2 (min 15 sl.toNat)
            share := newShare } } })

/-- The plan's commands: STATE outside IDLE; LOAD_EXTENT refuses with PARAM a position above 15 or above the length, more than 3
levels, or a first or stride out of range, and otherwise replaces or appends the record; PLAN_CLEAR empties the plan; no other
command changes the plan but POWER_ON and LINE_RESET, and outside IDLE only these two do (R59). -/
def Obligations.PlanCommands : Prop :=
  (∀ (ps : List Byte) (s : State), s.phase = .running → ps.length = 20 →
    let i := fromBytes (ps.take 1)
    let e := extentAt ps 1
    (s.sc.state ≠ .idle →
      exec (.loadExtent ps) s = .next (s.replying false false .state []) ∧
      exec (.planClear []) s = .next (s.replying false false .state [])) ∧
    (s.sc.state = .idle →
      (15 < i ∨ s.se.plan.length < i ∨ 3 < levelCountAt ps 1 ∨ 1048576 ≤ e.first ∨ (∃ l ∈ e.levels, 1048576 ≤ l.stride) →
        exec (.loadExtent ps) s = .next (s.replying false false .param [])) ∧
      (i ≤ 15 → i < s.se.plan.length → levelCountAt ps 1 ≤ 3 → e.first < 1048576 → (∀ l ∈ e.levels, l.stride < 1048576) →
        exec (.loadExtent ps) s = .next { s.replying false false .ok [] with
          se := { s.se with plan := s.se.plan.set i e } }) ∧
      (i ≤ 15 → i = s.se.plan.length → levelCountAt ps 1 ≤ 3 → e.first < 1048576 → (∀ l ∈ e.levels, l.stride < 1048576) →
        exec (.loadExtent ps) s = .next { s.replying false false .ok [] with
          se := { s.se with plan := s.se.plan ++ [e] } }) ∧
      exec (.planClear []) s = .next { s.replying false false .ok [] with se := { s.se with plan := [] } })) ∧
  (∀ (c : Instr) (s t : State), exec c s = .next t →
    (s.sc.state ≠ .idle ∨ ∀ ps, c ≠ .loadExtent ps ∧ c ≠ .planClear ps) → c ≠ .powerOn → c ≠ .lineReset →
    t.se.plan = s.se.plan)

/-- SET_FENCE with the arm latch set: STATE outside IDLE, then LOCKED as the lock mode and the strap forbid it, then PARAM for a
slot above 7 or, without EMPTY, a run out of range; otherwise the slot holds the record given, or nothing with EMPTY. With the latch
clear: UNARMED. Outside IDLE no command but POWER_ON changes the local fences (R11, R12, R16). -/
def Obligations.SetFence : Prop :=
  (∀ flock ps (s : State), s.phase = .running → s.mgp.armLatch = false →
    exec (.setFence flock ps) s = .next (s.replying true false .unarmed [])) ∧
  (∀ (flock : Bool) (slot flags : Byte) (first length : BitVec 24) (s : State),
    s.phase = .running → s.mgp.armLatch = true →
    let ps := [slot] ++ toBytes 3 first.toNat ++ toBytes 3 length.toNat ++ [flags]
    let locked := s.gm.lock = .session ∨ s.gm.lock = .strap ∧ flock = true
    let empty := flags.getLsbD 1
    let sound := slot.toNat < 8 ∧ (empty = true ∨ first.toNat < 1048576 ∧ 1 ≤ length.toNat ∧ length.toNat ≤ 1048576)
    let held : Option Fence := if empty then none else some ⟨first.toNat, length.toNat, flags.getLsbD 0⟩
    (s.sc.state ≠ .idle → exec (.setFence flock ps) s = .next (s.replying true false .state [])) ∧
    (s.sc.state = .idle → locked → exec (.setFence flock ps) s = .next (s.replying true false .locked [])) ∧
    (s.sc.state = .idle → ¬ locked → ¬ sound → exec (.setFence flock ps) s = .next (s.replying true false .param [])) ∧
    (s.sc.state = .idle → ¬ locked → sound → exec (.setFence flock ps) s = .next { s.replying true false .ok [] with
      gm := { s.gm with localFences := s.gm.localFences.set slot.toNat held } })) ∧
  (∀ (c : Instr) (s t : State), exec c s = .next t → s.sc.state ≠ .idle → c ≠ .powerOn →
    t.gm.localFences = s.gm.localFences)

/-- LOCK_FENCES: UNARMED, then PARAM for another mode, then LOCKED from SESSION to STRAP, otherwise the mode named; no other command
changes the lock but POWER_ON, which returns it to OPEN, and the lock never goes back otherwise (R17). -/
def Obligations.LockMovesForward : Prop :=
  (∀ ps (s : State), s.phase = .running → s.mgp.armLatch = false →
    exec (.lockFences ps) s = .next (s.replying true false .unarmed [])) ∧
  (∀ (mode : Byte) (s : State), s.phase = .running → s.mgp.armLatch = true →
    (mode ≠ 1 → mode ≠ 2 → exec (.lockFences [mode]) s = .next (s.replying true false .param [])) ∧
    (mode = 1 → s.gm.lock = .session → exec (.lockFences [mode]) s = .next (s.replying true false .locked [])) ∧
    (mode = 1 → s.gm.lock ≠ .session → exec (.lockFences [mode]) s = .next { s.replying true false .ok [] with
      gm := { s.gm with lock := .strap } }) ∧
    (mode = 2 → exec (.lockFences [mode]) s = .next { s.replying true false .ok [] with
      gm := { s.gm with lock := .session } })) ∧
  (∀ (c : Instr) (s t : State), exec c s = .next t →
    (c = .powerOn → t.gm.lock = .unlocked) ∧
    (c ≠ .powerOn → t.gm.lock = s.gm.lock ∨
      (∃ ps, c = .lockFences ps) ∧ t.gm.lock ≠ .unlocked ∧ s.gm.lock ≠ .session))

/-- START with the arm latch set: STATE unless a SOURCE in IDLE with the link up and a span set; otherwise the session opens: the next
session number, a new map from the local fences with its census, empty peer fences, ST, SE and CVU set for the session, HELLO the only
entry of the TXQ, the handshake timer from 0, HANDSHAKE. LISTEN: STATE unless a TARGET in IDLE with a span set; otherwise the flags are
cleared, the map and the peer fences go, the return list is emptied, the share is the parameter and LISTEN begins, with no uncovered
write at the head (R3, R28, R70, R85, R126, R127, R128, R132, R156, R160, R162). -/
def Obligations.StartAndListen : Prop :=
  ∀ s : State, s.phase = .running → s.mgp.armLatch = true →
    let fenced := (List.range s.sc.params.span).map (fencesCover s.sc.params.span s.gm.localFences)
    (¬ (s.sc.role = .source ∧ s.sc.state = .idle ∧ s.sc.linkUp = true ∧ s.sc.params.span ≠ 0) →
      exec (.start []) s = .next (s.replying true false .state [])) ∧
    (s.sc.role = .source → s.sc.state = .idle → s.sc.linkUp = true → s.sc.params.span ≠ 0 →
      exec (.start []) s = .next { s.replying true false .ok [] with
        gm := { s.gm with
          map := some (fenced.map fun c => if c then .excluded else .uncopied)
          census := ⟨s.sc.params.span - fenced.count true, 0, 0, fenced.count true⟩
          nc := 0
          nd := 0
          ndNext := 0
          peerFences := List.replicate 8 none }
        se := { State.reset.se with plan := s.se.plan }
        st := { s.st with
          txq := [.frame (.hello (s.sc.session + 1) (BitVec.ofNat 24 s.sc.params.span) 0)]
          pendingMarks := []
          mrl := []
          sendCredits := 32
          mirrorSeq := 0
          newestSent := none
          keepalive := ⟨true, 0⟩
          keepDue := false }
        sc := { s.sc with
          startFail := none
          faultReason := none
          synced := false
          unsynced := false
          session := s.sc.session + 1
          handshake := ⟨true, 0⟩
          state := .handshake }
        cvu := { State.reset.cvu with share := s.sc.params.share, armed := !s.sc.params.manual } }) ∧
    (¬ (s.sc.role = .target ∧ s.sc.state = .idle ∧ s.sc.params.span ≠ 0) →
      exec (.listen []) s = .next (s.replying true false .state [])) ∧
    (s.sc.role = .target → s.sc.state = .idle → s.sc.params.span ≠ 0 →
      (s.setSc { s.sc with state := .listen }).headRefused = false →
      exec (.listen []) s = .next { s.replying true false .ok [] with
        gm := { s.gm with map := none, census := ⟨0, 0, 0, 0⟩, peerFences := List.replicate 8 none }
        st := { s.st with returnList := [] }
        sc := { s.sc with synced := false, unsynced := false, faultReason := none, state := .listen }
        cvu := { s.cvu with share := s.sc.params.share } })

/-- PAUSE and RESUME on a SOURCE in SWEEP or RINSE before DETACH: PAUSE sets PAUSED and nothing else; RESUME clears it and a running
pass goes on, a WAITING one starts a rinse pass if D is above 0; elsewhere both are refused with STATE (R76, R77). A RESUME that
finds DEFERRED makes the cutover test with the current D: eligible and armed, the SOURCE enters CUTOVER; otherwise a rinse pass starts
with D above 0 and WAITING is set with D at 0 (R77, R158, R159, R164). The rinse pass starts with N_c and N_d at 0 (R10, R70), and what was
counted while WAITING or DEFERRED counts toward it (R150) in a count of its own (DEDUCED, log 38). -/
def Obligations.PauseAndResume : Prop :=
  ∀ s : State, s.phase = .running →
    let taken := s.sc.role = .source ∧ (s.sc.state = .sweep ∨ s.sc.state = .rinse) ∧ s.sc.releasePending = false
    (¬ taken → exec (.pause []) s = .next (s.replying false false .state []) ∧
      exec (.resume []) s = .next (s.replying false false .state [])) ∧
    (taken → exec (.pause []) s = .next { s.replying false false .ok [] with se := { s.se with paused := true } }) ∧
    (taken → s.se.paused = false → exec (.resume []) s = .next (s.replying false false .ok [])) ∧
    (taken → s.se.paused = true → s.se.deferred = false → (s.se.waiting = true → s.d = 0) → (s.se.waiting = true → s.se.running = false) →
      exec (.resume []) s = .next { s.replying false false .ok [] with se := { s.se with paused := false } }) ∧
    (taken → s.se.paused = true → s.se.deferred = false → s.se.waiting = true → 0 < s.d →
      exec (.resume []) s = .next { s.replying false false .ok [] with
        se := { s.se with paused := false, running := true, waiting := false, scanIdx := 0, passTimer := 0 }
        gm := { s.gm with nc := 0, nd := 0 } }) ∧
    (taken → s.se.paused = true → s.se.deferred = true →
      let ok := eligibleFor s.sc.params s.cvu.heldC s.d
      let tested : PassRecord := { s.cvu.record with
        d := s.d
        h := predictedHold s.d s.cvu.heldC s.sc.params.qAllow
        eligible := ok
        point := .resume }
      let latch := if ok then s.au.latch ||| 0x002#12 else s.au.latch
      ((s.cvu.armed = false ∨ ok = false) → 0 < s.d →
        exec (.resume []) s = .next { s.replying false false .ok [] with
          se := { s.se with
            paused := false
            deferred := false
            running := true
            waiting := false
            scanIdx := 0
            passTimer := 0 }
          gm := { s.gm with nc := 0, nd := 0 }
          cvu := { s.cvu with record := tested }
          au := { s.au with latch := latch } }) ∧
      ((s.cvu.armed = false ∨ ok = false) → s.d = 0 →
        exec (.resume []) s = .next { s.replying false false .ok [] with
          se := { s.se with paused := false, deferred := false, running := false, waiting := true }
          cvu := { s.cvu with record := tested }
          au := { s.au with latch := latch } }) ∧
      (s.cvu.armed = true → ok = true → s.st.txq.length < 60 → s.st.pendingMarks = [] →
        exec (.resume []) s = .next { s.replying false false .ok [] with
          cp := { s.cp with hold := true }
          se := { s.se with
            paused := false
            deferred := false
            running := decide (0 < s.d)
            waiting := false
            scanIdx := 0 }
          st := { s.st with
            txq := s.st.txq ++
              .frame (.mark s.sc.session (.cutoverBegin (BitVec.ofNat 8 (s.cvu.attempts + 1)))) ::
                if s.d = 0 then [.frame (.mark s.sc.session .cutoverEnd)] else [] }
          sc := { s.sc with holdTimer := ⟨true, 0⟩, state := .cutover }
          cvu := { s.cvu with attempts := s.cvu.attempts + 1, record := tested }
          au := { s.au with latch := latch } }))

/-- SKIP on a SOURCE in SWEEP before DETACH: LEVEL takes the innermost level as exhausted, so that the next level outward that is
not exhausted is stepped and the levels inside it are entered again, and EXTENT, or a LEVEL that exhausts the extent, enters the
next extent, or sets pass-0-done past the last; the other positions are dropped and nothing else changes while the pass goes on.
With pass-0-done set and no granule open pass 0 ends at the SKIP (R71, R73); after it a SKIP changes nothing. Elsewhere it is
refused with STATE, and with PARAM if it names neither (R61, R63). That a SKIP that names neither form may stand in the row of LEVEL
(log 21) and that PAUSED stands from SWEEP into RINSE (log 19) are DEDUCED. -/
def Obligations.SkipMovesCursor : Prop :=
  ∀ s : State, s.phase = .running →
    let taken := s.sc.role = .source ∧ s.sc.state = .sweep ∧ s.sc.releasePending = false
    (∀ b, ¬ taken → exec (.skipLevel [b]) s = .next (s.replying false false .state []) ∧
      exec (.skipExtent [b]) s = .next (s.replying false false .state [])) ∧
    (∀ b, taken → b ≠ 1 → b ≠ 2 → exec (.skipLevel [b]) s = .next (s.replying false false .param [])) ∧
    (taken → s.se.cursor.done = true →
      exec (.skipLevel [1]) s = .next (s.replying false false .ok []) ∧
      exec (.skipExtent [2]) s = .next (s.replying false false .ok [])) ∧
    (taken → s.se.cursor.done = false → ∀ e : Extent, s.se.plan[s.se.cursor.extent]? = some e →
      let moved (c : Cursor) : State := { s.replying false false .ok [] with se := { s.se with cursor := c } }
      let last : Cursor := ⟨s.se.cursor.extent + 1, [], none, true⟩
      (∀ next, s.se.plan[s.se.cursor.extent + 1]? = some next →
        let entered : Cursor :=
          ⟨s.se.cursor.extent + 1, next.levels.map Level.count, some (next.first % s.sc.params.span), false⟩
        exec (.skipExtent [2]) s = .next (moved entered) ∧
        ((∀ r ∈ s.se.cursor.remaining.dropLast, r ≤ 1) → s.se.cursor.remaining.length = e.levels.length →
          exec (.skipLevel [1]) s = .next (moved entered))) ∧
      (s.se.plan.length ≤ s.se.cursor.extent + 1 → s.st.txq.length < 60 → s.st.pendingMarks = [] →
        let ended := if s.se.opened = none ∧ s.se.running = true then (moved last).passEnded else moved last
        exec (.skipExtent [2]) s = .next ended ∧
        ((∀ r ∈ s.se.cursor.remaining.dropLast, r ≤ 1) → s.se.cursor.remaining.length = e.levels.length →
          exec (.skipLevel [1]) s = .next ended)) ∧
      (∀ pre r k inner, s.se.cursor.remaining = pre ++ r :: (List.replicate k 1 ++ [inner]) → 1 < r →
        s.se.cursor.remaining.length = e.levels.length →
        let rem := pre ++ (r - 1) :: (e.levels.drop (pre.length + 1)).map Level.count
        exec (.skipLevel [1]) s = .next (moved { s.se.cursor with
          remaining := rem
          next := some ((e.first +
            ((e.levels.zip rem).map fun p => (p.1.count - p.2) * p.1.stride).sum) % s.sc.params.span) })))

/-- CUTOVER with the arm latch set: STATE unless a SOURCE in SWEEP or RINSE before DETACH; otherwise it arms with the attempt count
0, and a SOURCE that is WAITING and not PAUSED makes the immediate test with D at 0 or above: eligible, it enters CUTOVER with hold,
the hold timer and CUTOVER_BEGIN; otherwise it stays WAITING (R159, R163, R164). -/
def Obligations.CutoverArms : Prop :=
  ∀ s : State, s.phase = .running → s.mgp.armLatch = true →
    let taken := s.sc.role = .source ∧ (s.sc.state = .sweep ∨ s.sc.state = .rinse) ∧ s.sc.releasePending = false
    let ok := eligibleFor s.sc.params s.cvu.heldC s.d
    let tested : PassRecord := { s.cvu.record with
      d := s.d
      h := predictedHold s.d s.cvu.heldC s.sc.params.qAllow
      eligible := ok
      point := .command }
    (¬ taken → exec (.cutover []) s = .next (s.replying true false .state [])) ∧
    (taken → (s.se.waiting = false ∨ s.se.paused = true) →
      exec (.cutover []) s = .next { s.replying true false .ok [] with cvu := { s.cvu with armed := true, attempts := 0 } }) ∧
    (taken → s.se.waiting = true → s.se.paused = false → ok = false →
      exec (.cutover []) s = .next { s.replying true false .ok [] with
        cvu := { s.cvu with armed := true, attempts := 0, record := tested } }) ∧
    (taken → s.se.waiting = true → s.se.paused = false → ok = true → s.st.txq.length < 60 → s.st.pendingMarks = [] →
      exec (.cutover []) s = .next { s.replying true false .ok [] with
        cp := { s.cp with hold := true }
        se := { s.se with running := decide (0 < s.d), waiting := false, scanIdx := 0 }
        st := { s.st with
          txq := s.st.txq ++ .frame (.mark s.sc.session (.cutoverBegin 1)) ::
            if s.d = 0 then [.frame (.mark s.sc.session .cutoverEnd)] else [] }
        sc := { s.sc with holdTimer := ⟨true, 0⟩, state := .cutover }
        cvu := { s.cvu with armed := true, attempts := 1, record := tested }
        au := { s.au with latch := s.au.latch ||| 0x002#12 } })

/-- DETACH with the arm latch set: STATE unless a SOURCE in a sending state without RELEASE_PENDING; otherwise RELEASE_PENDING is set,
hold is released, the hold timer stopped, no READY awaited, and SE stops with its open record kept. RELEASE is appended, raising
TXQ_HIGH as the 63rd entry, or joins the pending marks at a full TXQ or behind another; where 8 are pending it is dropped with DISCARDED
and a DISCARD event of its mark kind, and the detach completes at that event (R80, R89, R90, R139, R140, R146). The send of RELEASE,
whatever the arm latch, brings IDLE (R140). The kept count of the stopped hold timer is the model's choice (log 10), and that the newest
mirror sent stands through a detach is DEDUCED (log 29). -/
def Obligations.Detach : Prop :=
  ∀ s : State, s.phase = .running →
    (s.mgp.armLatch = true →
      (s.sending = false ∨ s.sc.releasePending = true →
        exec (.detach []) s = .next (s.replying true false .state [])) ∧
      (s.sending = true → s.sc.releasePending = false →
        let begun : State := { s.replying true false .ok [] with
          cp := { s.cp with hold := false }
          se := { s.se with running := false, waiting := false, paused := false, deferred := false }
          sc := { s.sc with
            releasePending := true
            holdTimer := ⟨false, s.sc.holdTimer.count⟩
            awaitingReady := false } }
        (s.st.txq.length < 64 → s.st.pendingMarks = [] →
          exec (.detach []) s = .next { begun with
            st := { s.st with txq := s.st.txq ++ [.frame (.mark s.sc.session .release)] }
            au := { s.au with latch := if s.st.txq.length = 62 then s.au.latch ||| 0x080#12 else s.au.latch } }) ∧
        (64 ≤ s.st.txq.length ∨ s.st.pendingMarks ≠ [] → s.st.pendingMarks.length < 8 →
          exec (.detach []) s = .next { begun with
            st := { s.st with pendingMarks := s.st.pendingMarks ++ [⟨s.sc.session, .release⟩] } }) ∧
        (8 ≤ s.st.pendingMarks.length →
          exec (.detach []) s = .next { begun.leftSource .idle s.st.newestSent with
            mgp := { begun.mgp with
              counters := { s.mgp.counters with discarded := min 16777215 (s.mgp.counters.discarded + 1) }
              event := s.captured .discard none (.markKind 6) } }))) ∧
    (∀ n rest, s.transmitting = true → s.sc.linkUp = true → s.st.keepalive.running = true →
      s.st.txq = .frame (.mark n .release) :: rest → 0 < s.st.sendCredits →
      ∃ t, exec .txqSend s = .next t ∧ t.sc.state = .idle ∧ t.sc.releasePending = false ∧ t.cp.hold = false ∧
        t.st.txq = [] ∧ t.st.mrl = [] ∧ t.se.opened = none ∧ t.gm = s.gm ∧ t.mgp = s.mgp ∧
        t.out = [.frame (Frame.mark n .release).bytes])

/-- TAKEOVER with the arm latch set: STATE where the table of R143 does not allow it; with the link down it completes at once; with
the link up TAKEN takes a place in the return list and the state stays. UNSYNCED_TAKEOVER is set from FILLING and FAULT. The send of
a TAKEN completes a takeover: SYNCED is set if UNSYNCED_TAKEOVER is clear, and the TARGET enters IDLE with its buffers emptied
(R143, R144, R146). At a full return list TAKEN waits as a claim for the next place (R143, R117). The send is stated from FILLING,
SHADOW and FAULT alike, with the keepalive running or stopped. That the stopped timers keep their counts is the model's choice (log
10). That the clean flag stands at the entry into IDLE is DEDUCED (log 30). -/
def Obligations.Takeover : Prop :=
  (∀ (force : Bool) (s : State), s.phase = .running → s.mgp.armLatch = true →
    let ps : List Byte := [if force then 1 else 0]
    let allowed := s.sc.role = .target ∧ s.sc.takeoverPending = false ∧
      (s.sc.state = .shadow ∨ force = true ∧ (s.sc.state = .filling ∨ s.sc.state = .fault))
    let unsynced := s.sc.unsynced || decide (s.sc.state ≠ .shadow)
    (¬ allowed → exec (.takeover ps) s = .next (s.replying true false .state [])) ∧
    (allowed → s.sc.linkUp = false →
      exec (.takeover ps) s = .next
        (({ s with sc := { s.sc with unsynced := unsynced, synced := s.sc.synced || !unsynced } } : State).leftTarget.replying
          true false .ok [])) ∧
    (allowed → s.sc.linkUp = true → s.st.returnList.length < 16 → s.sr.failedApply = [] → s.sr.creditDue = false →
      s.sr.buffer = [] → s.sr.head = none →
      exec (.takeover ps) s = .next { s.replying true false .ok [] with
        sc := { s.sc with takeoverPending := true, unsynced := unsynced, takenWaiting := false }
        st := { s.st with returnList := s.st.returnList ++ [.taken s.sc.session] } }) ∧
    (allowed → s.sc.linkUp = true → 16 ≤ s.st.returnList.length → (s.sr.head = none → s.sr.buffer = []) →
      exec (.takeover ps) s = .next { s.replying true false .ok [] with
        sc := { s.sc with takeoverPending := true, unsynced := unsynced, takenWaiting := true } })) ∧
  (∀ (n : Byte) (rest : List Frame) (s : State),
    s.phase = .running → s.sc.role = .target → s.sc.linkUp = true → s.sc.takeoverPending = true →
    s.st.returnList = .taken n :: rest →
    exec .returnListSend s = .next
      ({ s with
        out := [.frame (Frame.taken n).bytes]
        st := { s.st with keepalive := if s.st.keepalive.running then ⟨true, 0⟩ else s.st.keepalive }
        sc := { s.sc with synced := s.sc.synced || !s.sc.unsynced } } : State).leftTarget)

/-- READ_EVENT answers OK with the record as it stands and clears UNREAD and OVERRUN, keeping the other fields; a second one shows
the same event with both clear; STATUS, CLEAR_COUNTERS and ACK_ALERTS leave the record; a capture before it is the event it
returns, and a capture after it leaves OVERRUN clear (R184). CLEAR_COUNTERS clears the nine counters and OVERFLOW alone (R185). The 12
bytes hold their fields as 11.3 gives. -/
def Obligations.ReadEvent : Prop :=
  ∀ s : State, s.phase = .running →
    let read := exec (.readEvent []) s
    read = .next { s.replying false false .ok s.mgp.event.bytes with
      mgp := { (s.replying false false .ok s.mgp.event.bytes).mgp with
        event := { s.mgp.event with unread := false, overrun := false } } } ∧
    (∀ t, read = .next t → exec (.readEvent []) t = .next { t with
      mgp := { t.mgp with reply := ⟨.ok, ({ s.mgp.event with unread := false, overrun := false } : EventRecord).bytes⟩ } }) ∧
    (∀ ps t, (exec (.status ps) s = .next t ∨ exec (.clearCounters ps) s = .next t ∨ exec (.ackAlerts ps) s = .next t) →
      t.mgp.event = s.mgp.event) ∧
    (∀ k g d t, read = .next t → (t.capture k g d).mgp.event.unread = true ∧ (t.capture k g d).mgp.event.overrun = false) ∧
    (∀ k g d, (s.capture k g d).mgp.event.unread = true ∧
      (s.capture k g d).mgp.event.overrun = (s.mgp.event.overrun || s.mgp.event.unread)) ∧
    exec (.clearCounters []) s = .next { s.replying false false .ok [] with
      mgp := { (s.replying false false .ok []).mgp with counters := ⟨0, 0, 0, 0, 0, 0, 0, 0, 0⟩ }
      sr := { s.sr with overflow := false } } ∧
    (let e := s.mgp.event
     let num (off n : Nat) : Nat := field e.bytes off n
     e.bytes.length = 12 ∧
     [EventKind.none, .degrade, .discard, .need, .loss, .writeFail, .poison, .refusedWrite, .protect][num 0 1]? =
       some e.kind ∧
     (List.range 3).map (num 1 1).testBit = [e.unread, e.overrun, e.granule.isSome] ∧
     num 3 3 = e.granule.getD 0 % 2 ^ 24 ∧ num 10 2 = e.pass % 2 ^ 16 ∧
     (e.detail = .absent → num 2 1 = 0 ∧ num 6 4 = 0) ∧
     (∀ q, e.detail = .sequence q → num 2 1 = 1 ∧ num 6 4 = q.toNat) ∧
     (∀ a, e.detail = .lineAddr a → num 2 1 = 2 ∧ num 6 4 = a % 2 ^ 32) ∧
     (∀ k, e.detail = .frameKind k → num 2 1 = 3 ∧ num 6 4 = k.toNat) ∧
     (∀ k, e.detail = .markKind k → num 2 1 = 4 ∧ num 6 4 = k.toNat))

/-- ACK_ALERTS clears every latched flag it names and no other, SET_MASK replaces the mask, bits that name no kind are ignored, and
the alert line is high exactly while an unmasked flag is set and the part runs; a raise sets its flag whatever the mask, the status
record shows the latch and the mask, and every reset masks every kind (R186, R187, R188). -/
def Obligations.AlertsAndMask : Prop :=
  ∀ (hi lo : Byte) (s : State), s.phase = .running →
    let named : BitVec 12 := BitVec.ofNat 12 (hi.toNat * 256 + lo.toNat)
    exec (.ackAlerts [hi, lo]) s = .next { s.replying false false .ok [] with
      au := { s.au with latch := s.au.latch &&& ~~~named } } ∧
    exec (.setMask [hi, lo]) s = .next { s.replying false false .ok [] with au := { s.au with mask := named } } ∧
    (s.alertLine = true ↔ ∃ k : Alert, s.au.latch.getLsbD k.index = true ∧ s.au.mask.getLsbD k.index = false) ∧
    (∀ k j : Alert, (s.raise k).latched j = (s.latched j || decide (j = k)) ∧ (s.raise k).au.mask = s.au.mask) ∧
    (s.statusRecord.drop 56).take 4 = toBytes 2 s.au.latch.toNat ++ toBytes 2 s.au.mask.toNat ∧
    (∀ t, (exec .powerOn s = .next t ∨ exec .lineReset s = .next t ∨ s.mgp.resetEnable = true ∧ exec (.reset []) s = .next t) →
      t.au.mask = BitVec.allOnes 12 ∧ t.alertLine = false)

/-! ### Resets -/

/-- In a reset the part takes nothing but the rise of the supply and the releases, and holds the alert line low; outside one the
releases do nothing. POWER_ON and its release leave the state after reset, with the straps sampled and the client's 32 credits
issued; LINE_RESET and its release leave the same but for the local fences, the fence lock and the cause (R20, R24, R38, R39, R83,
R102, R124, R148, R178, R190, R191, R193, R194). The counts of stopped timers and the queue are the model's choice (log 10, log 37).
What a part in a reset takes (log 7) and that the client then holds no credits (log 33) are DEDUCED. -/
def Obligations.ResetsLeaveFirstValues : Prop :=
  (∀ (c : Instr) (s : State), s.phase ≠ .running → c.takenInReset = false → exec c s = .next { s with out := [] }) ∧
  (∀ s : State, s.phase ≠ .running → s.alertLine = false) ∧
  (∀ (x : BitVec 3) (s : State), s.phase = .running →
    exec (.powerOnRelease x) s = .next { s with out := [] } ∧ exec (.lineResetRelease x) s = .next { s with out := [] }) ∧
  (∀ (x : BitVec 3) (s : State),
    (∃ t, exec .powerOn s = .next t ∧ t.phase = .inPowerOn ∧ exec (.powerOnRelease x) t = .next { State.reset with
      mgp := { State.reset.mgp with straps := x }
      out := [.clientCredits 32]
      pending := s.pending }) ∧
    (s.phase = .running → ∃ t, exec .lineReset s = .next t ∧ t.phase = .inLine ∧
      exec (.lineResetRelease x) t = .next { State.reset with
        gm := { State.reset.gm with localFences := s.gm.localFences, lock := s.gm.lock }
        mgp := { State.reset.mgp with straps := x, cause := .line }
        out := [.clientCredits 32]
        pending := s.pending }))

/-! ### Convergence -/

/-- The predicted hold H: Q_allow with D at 0, 16,777,215 with work left and C at 0, otherwise the ceiling of D × 1,024 ÷ C plus
Q_allow, capped; the tests of CUTOVER and RESUME enter it with the held C and Q_allow (R153). A cutover is eligible exactly when D is at
most D_max and H at most H_limit, and a test that finds it so raises ELIGIBLE and leaves it alone otherwise. -/
def Obligations.PredictedHold : Prop :=
  (∀ c q, predictedHold 0 c q = q) ∧
  (∀ d q, 0 < d → predictedHold d 0 q = 16777215) ∧
  (∀ d c q, 0 < d → 0 < c → ∃ n, (n - 1) * c < d * 1024 ∧ d * 1024 ≤ n * c ∧
    predictedHold d c q = min 16777215 (n + q)) ∧
  (∀ d c q, q ≤ 65535 → predictedHold d c q ≤ 16777215) ∧
  (∀ (s : State) (p : TestPoint),
    (s.cutoverTest p).cvu.record.h = predictedHold s.d s.cvu.heldC s.sc.params.qAllow ∧
    s.takePassEnd.cvu.record.h = predictedHold s.d s.takePassEnd.cvu.heldC s.sc.params.qAllow) ∧
  (∀ (p : Params) (c d : Nat), eligibleFor p c d = true ↔ d ≤ p.dMax ∧ predictedHold d c p.qAllow ≤ p.hLimit) ∧
  (∀ (s : State) (p : TestPoint), ∀ t, (t = s.cutoverTest p ∨ t = s.takePassEnd) →
    t.cvu.record.d = s.d ∧ t.cvu.record.eligible = eligibleFor s.sc.params t.cvu.heldC s.d ∧
    t.latched .eligible = (s.latched .eligible || t.cvu.record.eligible))

/-- A pass end's rates over T: C is floor(N_c × 1,024 ÷ T) capped at 65,535, or held when N_c is 0; R is floor(N_d × 1,024 ÷ T)
capped, N_d being the pass's own transitions and those the wait before it counted toward it (that they stand in a count of their own is
DEDUCED, log 38); the pass is converging when R is below C, and the streak steps by that, with NONCONVERGENT and one sixteenth more share,
up to 15, at the third nonconverging pass in a row; the tests of CUTOVER and RESUME touch none of it (R150, R151, R152, R155). -/
def Obligations.PassEndArithmetic : Prop :=
  ∀ (s : State) (p : TestPoint),
    let t := max 1 s.se.passTimer
    let u := s.takePassEnd
    let conv := decide (u.cvu.record.r < u.cvu.record.c)
    let nd := min 16777215 (s.gm.nd + s.gm.ndNext)
    u.cvu.record.t = t ∧ u.cvu.record.nc = s.gm.nc ∧ u.cvu.record.nd = nd ∧ u.gm = { s.gm with ndNext := 0 } ∧
    u.cvu.record.c = u.cvu.heldC ∧ u.cvu.record.cHeld = decide (s.gm.nc = 0) ∧
    (s.gm.nc = 0 → u.cvu.heldC = s.cvu.heldC) ∧
    (0 < s.gm.nc → ∃ f, f * t ≤ s.gm.nc * 1024 ∧ s.gm.nc * 1024 < (f + 1) * t ∧ u.cvu.heldC = min 65535 f) ∧
    (∃ f, f * t ≤ nd * 1024 ∧ nd * 1024 < (f + 1) * t ∧ u.cvu.record.r = min 65535 f) ∧
    u.cvu.record.converging = conv ∧ u.cvu.record.streak = u.cvu.streak ∧
    (conv = true ∨ s.cvu.streak < 2 →
      u.cvu.streak = (if conv then 0 else s.cvu.streak + 1) ∧ u.cvu.share = s.cvu.share ∧
        u.latched .nonconvergent = s.latched .nonconvergent) ∧
    (conv = false → s.cvu.streak = 2 → u.cvu.streak = 0 ∧ u.latched .nonconvergent = true ∧
      u.cvu.share = if s.cvu.share < 15 then s.cvu.share + 1 else s.cvu.share) ∧
    (s.cutoverTest p).cvu.streak = s.cvu.streak ∧ (s.cutoverTest p).cvu.share = s.cvu.share ∧
    (s.cutoverTest p).cvu.heldC = s.cvu.heldC

/-! ### Invariants that every step keeps -/

/-- Every step keeps the client's credits and queue at 32 together, every tag in use once and every request record with its
memory-side credit, the shares and K in range, the bounds of the lists and counts, and the MRL's sequences consecutive (R23, R24,
R25, R29, R30, R37, R84, R89, R91, R94, R100, R108, R116, R156). That the client holds no credits in a reset is DEDUCED (log 33). -/
def Obligations.StepKeepsPorts : Prop :=
  ∀ s t : State, step s = .next t →
    (ClientCreditsBalance s → ClientCreditsBalance t) ∧ (RequestTableSound s → RequestTableSound t) ∧
    (SharesInRange s → SharesInRange t) ∧ (ListsInBounds s → ListsInBounds t) ∧ (MrlConsecutive s → MrlConsecutive t)

/-- Every step keeps the census level with the map; and it keeps a SOURCE in SHADOW at D 0 with no granule open, together with what
this rests on (R9, R173). -/
def Obligations.StepKeepsShadowLevel : Prop :=
  ∀ s t : State, step s = .next t → (CensusLevel s → CensusLevel t) ∧ (ShadowLevel s → ShadowLevel t)

/-- Every step keeps hold and the timers with the session states that own them, the session state fitting the role, and SYNCED in
IDLE without UNSYNCED_TAKEOVER, and CVU of a TARGET with nothing of an earlier session but its record, which READ_PASS hides there,
and its share in use at the share parameter (7.1, R26, R92, R106, R129, R147, R149, R165; that SET_SESSION clears it there is
DEDUCED, log 43). -/
def Obligations.StepKeepsSession : Prop :=
  ∀ s t : State, step s = .next t →
    (ClocksFollowState s → ClocksFollowState t) ∧ (StateFitsRole s → StateFitsRole t) ∧ (SyncedAlone s → SyncedAlone t) ∧
    (ConvergenceClearOnTarget s → ConvergenceClearOnTarget t)

/-- Every step keeps the head of a fenced TARGET's queue judged, and from such a state no client write to a granule outside the
fences reaches the memory side (R28). -/
def Obligations.FencedTargetForwardsNoUncoveredWrite : Prop :=
  ∀ s t : State, HeadJudged s → step s = .next t → HeadJudged t ∧
    (s.fencing = true → ∀ (tag : Nat) (a : LineAddr) (m : ByteMask) (d : LineData),
      .memRequest tag (.write a m d) ∈ t.out → tag < 64 → s.localCovers (granuleOf a.toNat) = true)

/-- The state after reset meets every invariant. -/
def Obligations.ResetMeetsInvariants : Prop :=
  ClientCreditsBalance State.reset ∧ RequestTableSound State.reset ∧ ShadowLevel State.reset ∧
  ClocksFollowState State.reset ∧ ListsInBounds State.reset ∧ SharesInRange State.reset ∧ MrlConsecutive State.reset ∧
  StateFitsRole State.reset ∧ SyncedAlone State.reset ∧ ConvergenceClearOnTarget State.reset ∧ HeadJudged State.reset

/-- A granule that is EXCLUDED leaves that state only with the map or at a START, and a MIRROR enters the TXQ only for a granule
that is COPIED or open (R4, R14, R43). -/
def Obligations.ExcludedGranulesStayOut : Prop :=
  ∀ (c : Instr) (s t : State), exec c s = .next t →
    ((∀ ps, c ≠ .start ps) → ∀ g, s.entry g = some .excluded → t.entry g = some .excluded ∨ t.gm.map = none) ∧
    (∀ q a m d, .frame (.mirror q a m d) ∈ t.st.txq → .frame (.mirror q a m d) ∈ s.st.txq ∨
      s.entry (granuleOf a.toNat) = some .copied ∨
      s.isOpen (granuleOf a.toNat) = true ∧
        (s.entry (granuleOf a.toNat) = some .uncopied ∨ s.entry (granuleOf a.toNat) = some .dirty))

/-! ### Encodings -/

/-- The write transaction of every well-formed management command gives that command back; a SKIP is well formed as SKIP_EXTENT with the
byte that names EXTENT, and as SKIP_LEVEL with any other parameter bytes (R63, R177, R199; log 21). -/
def Obligations.CommandBytesRoundTrip : Prop :=
  ∀ (c : Instr) (bs : List Byte), c.wf = true → c.toWrite = some bs → Instr.ofWrite c.flock bs = some c

/-- Every well-formed frame goes out with a CRC that checks and is read back as itself (R196, R197, R198). -/
def Obligations.FrameBytesRoundTrip : Prop :=
  ∀ f : Frame, f.wf = true → crcChecks f.bytes = true ∧ parseFrame (frameBody f.bytes) = some f
end

