-- ==== Sys2Proof/Laws/State.lean ====
section
/-! SUPPORT. What each named update of one unit of the state leaves in every field. -/

namespace Sys2Proof.Machine

open Sys2Proof

variable (s : State)

@[simp] theorem State.setPhase_phase (x : Phase) : (s.setPhase x).phase = x := rfl
@[simp] theorem State.setPhase_cp (x : Phase) : (s.setPhase x).cp = s.cp := rfl
@[simp] theorem State.setPhase_mp (x : Phase) : (s.setPhase x).mp = s.mp := rfl
@[simp] theorem State.setPhase_gm (x : Phase) : (s.setPhase x).gm = s.gm := rfl
@[simp] theorem State.setPhase_se (x : Phase) : (s.setPhase x).se = s.se := rfl
@[simp] theorem State.setPhase_st (x : Phase) : (s.setPhase x).st = s.st := rfl
@[simp] theorem State.setPhase_sr (x : Phase) : (s.setPhase x).sr = s.sr := rfl
@[simp] theorem State.setPhase_sc (x : Phase) : (s.setPhase x).sc = s.sc := rfl
@[simp] theorem State.setPhase_cvu (x : Phase) : (s.setPhase x).cvu = s.cvu := rfl
@[simp] theorem State.setPhase_mgp (x : Phase) : (s.setPhase x).mgp = s.mgp := rfl
@[simp] theorem State.setPhase_au (x : Phase) : (s.setPhase x).au = s.au := rfl
@[simp] theorem State.setPhase_out (x : Phase) : (s.setPhase x).out = s.out := rfl
@[simp] theorem State.setPhase_pending (x : Phase) : (s.setPhase x).pending = s.pending := rfl

@[simp] theorem State.setCp_phase (x : Cp) : (s.setCp x).phase = s.phase := rfl
@[simp] theorem State.setCp_cp (x : Cp) : (s.setCp x).cp = x := rfl
@[simp] theorem State.setCp_mp (x : Cp) : (s.setCp x).mp = s.mp := rfl
@[simp] theorem State.setCp_gm (x : Cp) : (s.setCp x).gm = s.gm := rfl
@[simp] theorem State.setCp_se (x : Cp) : (s.setCp x).se = s.se := rfl
@[simp] theorem State.setCp_st (x : Cp) : (s.setCp x).st = s.st := rfl
@[simp] theorem State.setCp_sr (x : Cp) : (s.setCp x).sr = s.sr := rfl
@[simp] theorem State.setCp_sc (x : Cp) : (s.setCp x).sc = s.sc := rfl
@[simp] theorem State.setCp_cvu (x : Cp) : (s.setCp x).cvu = s.cvu := rfl
@[simp] theorem State.setCp_mgp (x : Cp) : (s.setCp x).mgp = s.mgp := rfl
@[simp] theorem State.setCp_au (x : Cp) : (s.setCp x).au = s.au := rfl
@[simp] theorem State.setCp_out (x : Cp) : (s.setCp x).out = s.out := rfl
@[simp] theorem State.setCp_pending (x : Cp) : (s.setCp x).pending = s.pending := rfl

@[simp] theorem State.setMp_phase (x : Mp) : (s.setMp x).phase = s.phase := rfl
@[simp] theorem State.setMp_cp (x : Mp) : (s.setMp x).cp = s.cp := rfl
@[simp] theorem State.setMp_mp (x : Mp) : (s.setMp x).mp = x := rfl
@[simp] theorem State.setMp_gm (x : Mp) : (s.setMp x).gm = s.gm := rfl
@[simp] theorem State.setMp_se (x : Mp) : (s.setMp x).se = s.se := rfl
@[simp] theorem State.setMp_st (x : Mp) : (s.setMp x).st = s.st := rfl
@[simp] theorem State.setMp_sr (x : Mp) : (s.setMp x).sr = s.sr := rfl
@[simp] theorem State.setMp_sc (x : Mp) : (s.setMp x).sc = s.sc := rfl
@[simp] theorem State.setMp_cvu (x : Mp) : (s.setMp x).cvu = s.cvu := rfl
@[simp] theorem State.setMp_mgp (x : Mp) : (s.setMp x).mgp = s.mgp := rfl
@[simp] theorem State.setMp_au (x : Mp) : (s.setMp x).au = s.au := rfl
@[simp] theorem State.setMp_out (x : Mp) : (s.setMp x).out = s.out := rfl
@[simp] theorem State.setMp_pending (x : Mp) : (s.setMp x).pending = s.pending := rfl

@[simp] theorem State.setGm_phase (x : Gm) : (s.setGm x).phase = s.phase := rfl
@[simp] theorem State.setGm_cp (x : Gm) : (s.setGm x).cp = s.cp := rfl
@[simp] theorem State.setGm_mp (x : Gm) : (s.setGm x).mp = s.mp := rfl
@[simp] theorem State.setGm_gm (x : Gm) : (s.setGm x).gm = x := rfl
@[simp] theorem State.setGm_se (x : Gm) : (s.setGm x).se = s.se := rfl
@[simp] theorem State.setGm_st (x : Gm) : (s.setGm x).st = s.st := rfl
@[simp] theorem State.setGm_sr (x : Gm) : (s.setGm x).sr = s.sr := rfl
@[simp] theorem State.setGm_sc (x : Gm) : (s.setGm x).sc = s.sc := rfl
@[simp] theorem State.setGm_cvu (x : Gm) : (s.setGm x).cvu = s.cvu := rfl
@[simp] theorem State.setGm_mgp (x : Gm) : (s.setGm x).mgp = s.mgp := rfl
@[simp] theorem State.setGm_au (x : Gm) : (s.setGm x).au = s.au := rfl
@[simp] theorem State.setGm_out (x : Gm) : (s.setGm x).out = s.out := rfl
@[simp] theorem State.setGm_pending (x : Gm) : (s.setGm x).pending = s.pending := rfl

@[simp] theorem State.setSe_phase (x : Se) : (s.setSe x).phase = s.phase := rfl
@[simp] theorem State.setSe_cp (x : Se) : (s.setSe x).cp = s.cp := rfl
@[simp] theorem State.setSe_mp (x : Se) : (s.setSe x).mp = s.mp := rfl
@[simp] theorem State.setSe_gm (x : Se) : (s.setSe x).gm = s.gm := rfl
@[simp] theorem State.setSe_se (x : Se) : (s.setSe x).se = x := rfl
@[simp] theorem State.setSe_st (x : Se) : (s.setSe x).st = s.st := rfl
@[simp] theorem State.setSe_sr (x : Se) : (s.setSe x).sr = s.sr := rfl
@[simp] theorem State.setSe_sc (x : Se) : (s.setSe x).sc = s.sc := rfl
@[simp] theorem State.setSe_cvu (x : Se) : (s.setSe x).cvu = s.cvu := rfl
@[simp] theorem State.setSe_mgp (x : Se) : (s.setSe x).mgp = s.mgp := rfl
@[simp] theorem State.setSe_au (x : Se) : (s.setSe x).au = s.au := rfl
@[simp] theorem State.setSe_out (x : Se) : (s.setSe x).out = s.out := rfl
@[simp] theorem State.setSe_pending (x : Se) : (s.setSe x).pending = s.pending := rfl

@[simp] theorem State.setSt_phase (x : St) : (s.setSt x).phase = s.phase := rfl
@[simp] theorem State.setSt_cp (x : St) : (s.setSt x).cp = s.cp := rfl
@[simp] theorem State.setSt_mp (x : St) : (s.setSt x).mp = s.mp := rfl
@[simp] theorem State.setSt_gm (x : St) : (s.setSt x).gm = s.gm := rfl
@[simp] theorem State.setSt_se (x : St) : (s.setSt x).se = s.se := rfl
@[simp] theorem State.setSt_st (x : St) : (s.setSt x).st = x := rfl
@[simp] theorem State.setSt_sr (x : St) : (s.setSt x).sr = s.sr := rfl
@[simp] theorem State.setSt_sc (x : St) : (s.setSt x).sc = s.sc := rfl
@[simp] theorem State.setSt_cvu (x : St) : (s.setSt x).cvu = s.cvu := rfl
@[simp] theorem State.setSt_mgp (x : St) : (s.setSt x).mgp = s.mgp := rfl
@[simp] theorem State.setSt_au (x : St) : (s.setSt x).au = s.au := rfl
@[simp] theorem State.setSt_out (x : St) : (s.setSt x).out = s.out := rfl
@[simp] theorem State.setSt_pending (x : St) : (s.setSt x).pending = s.pending := rfl

@[simp] theorem State.setSr_phase (x : Sr) : (s.setSr x).phase = s.phase := rfl
@[simp] theorem State.setSr_cp (x : Sr) : (s.setSr x).cp = s.cp := rfl
@[simp] theorem State.setSr_mp (x : Sr) : (s.setSr x).mp = s.mp := rfl
@[simp] theorem State.setSr_gm (x : Sr) : (s.setSr x).gm = s.gm := rfl
@[simp] theorem State.setSr_se (x : Sr) : (s.setSr x).se = s.se := rfl
@[simp] theorem State.setSr_st (x : Sr) : (s.setSr x).st = s.st := rfl
@[simp] theorem State.setSr_sr (x : Sr) : (s.setSr x).sr = x := rfl
@[simp] theorem State.setSr_sc (x : Sr) : (s.setSr x).sc = s.sc := rfl
@[simp] theorem State.setSr_cvu (x : Sr) : (s.setSr x).cvu = s.cvu := rfl
@[simp] theorem State.setSr_mgp (x : Sr) : (s.setSr x).mgp = s.mgp := rfl
@[simp] theorem State.setSr_au (x : Sr) : (s.setSr x).au = s.au := rfl
@[simp] theorem State.setSr_out (x : Sr) : (s.setSr x).out = s.out := rfl
@[simp] theorem State.setSr_pending (x : Sr) : (s.setSr x).pending = s.pending := rfl

@[simp] theorem State.setSc_phase (x : Sc) : (s.setSc x).phase = s.phase := rfl
@[simp] theorem State.setSc_cp (x : Sc) : (s.setSc x).cp = s.cp := rfl
@[simp] theorem State.setSc_mp (x : Sc) : (s.setSc x).mp = s.mp := rfl
@[simp] theorem State.setSc_gm (x : Sc) : (s.setSc x).gm = s.gm := rfl
@[simp] theorem State.setSc_se (x : Sc) : (s.setSc x).se = s.se := rfl
@[simp] theorem State.setSc_st (x : Sc) : (s.setSc x).st = s.st := rfl
@[simp] theorem State.setSc_sr (x : Sc) : (s.setSc x).sr = s.sr := rfl
@[simp] theorem State.setSc_sc (x : Sc) : (s.setSc x).sc = x := rfl
@[simp] theorem State.setSc_cvu (x : Sc) : (s.setSc x).cvu = s.cvu := rfl
@[simp] theorem State.setSc_mgp (x : Sc) : (s.setSc x).mgp = s.mgp := rfl
@[simp] theorem State.setSc_au (x : Sc) : (s.setSc x).au = s.au := rfl
@[simp] theorem State.setSc_out (x : Sc) : (s.setSc x).out = s.out := rfl
@[simp] theorem State.setSc_pending (x : Sc) : (s.setSc x).pending = s.pending := rfl

@[simp] theorem State.setCvu_phase (x : Cvu) : (s.setCvu x).phase = s.phase := rfl
@[simp] theorem State.setCvu_cp (x : Cvu) : (s.setCvu x).cp = s.cp := rfl
@[simp] theorem State.setCvu_mp (x : Cvu) : (s.setCvu x).mp = s.mp := rfl
@[simp] theorem State.setCvu_gm (x : Cvu) : (s.setCvu x).gm = s.gm := rfl
@[simp] theorem State.setCvu_se (x : Cvu) : (s.setCvu x).se = s.se := rfl
@[simp] theorem State.setCvu_st (x : Cvu) : (s.setCvu x).st = s.st := rfl
@[simp] theorem State.setCvu_sr (x : Cvu) : (s.setCvu x).sr = s.sr := rfl
@[simp] theorem State.setCvu_sc (x : Cvu) : (s.setCvu x).sc = s.sc := rfl
@[simp] theorem State.setCvu_cvu (x : Cvu) : (s.setCvu x).cvu = x := rfl
@[simp] theorem State.setCvu_mgp (x : Cvu) : (s.setCvu x).mgp = s.mgp := rfl
@[simp] theorem State.setCvu_au (x : Cvu) : (s.setCvu x).au = s.au := rfl
@[simp] theorem State.setCvu_out (x : Cvu) : (s.setCvu x).out = s.out := rfl
@[simp] theorem State.setCvu_pending (x : Cvu) : (s.setCvu x).pending = s.pending := rfl

@[simp] theorem State.setMgp_phase (x : Mgp) : (s.setMgp x).phase = s.phase := rfl
@[simp] theorem State.setMgp_cp (x : Mgp) : (s.setMgp x).cp = s.cp := rfl
@[simp] theorem State.setMgp_mp (x : Mgp) : (s.setMgp x).mp = s.mp := rfl
@[simp] theorem State.setMgp_gm (x : Mgp) : (s.setMgp x).gm = s.gm := rfl
@[simp] theorem State.setMgp_se (x : Mgp) : (s.setMgp x).se = s.se := rfl
@[simp] theorem State.setMgp_st (x : Mgp) : (s.setMgp x).st = s.st := rfl
@[simp] theorem State.setMgp_sr (x : Mgp) : (s.setMgp x).sr = s.sr := rfl
@[simp] theorem State.setMgp_sc (x : Mgp) : (s.setMgp x).sc = s.sc := rfl
@[simp] theorem State.setMgp_cvu (x : Mgp) : (s.setMgp x).cvu = s.cvu := rfl
@[simp] theorem State.setMgp_mgp (x : Mgp) : (s.setMgp x).mgp = x := rfl
@[simp] theorem State.setMgp_au (x : Mgp) : (s.setMgp x).au = s.au := rfl
@[simp] theorem State.setMgp_out (x : Mgp) : (s.setMgp x).out = s.out := rfl
@[simp] theorem State.setMgp_pending (x : Mgp) : (s.setMgp x).pending = s.pending := rfl

@[simp] theorem State.setAu_phase (x : Au) : (s.setAu x).phase = s.phase := rfl
@[simp] theorem State.setAu_cp (x : Au) : (s.setAu x).cp = s.cp := rfl
@[simp] theorem State.setAu_mp (x : Au) : (s.setAu x).mp = s.mp := rfl
@[simp] theorem State.setAu_gm (x : Au) : (s.setAu x).gm = s.gm := rfl
@[simp] theorem State.setAu_se (x : Au) : (s.setAu x).se = s.se := rfl
@[simp] theorem State.setAu_st (x : Au) : (s.setAu x).st = s.st := rfl
@[simp] theorem State.setAu_sr (x : Au) : (s.setAu x).sr = s.sr := rfl
@[simp] theorem State.setAu_sc (x : Au) : (s.setAu x).sc = s.sc := rfl
@[simp] theorem State.setAu_cvu (x : Au) : (s.setAu x).cvu = s.cvu := rfl
@[simp] theorem State.setAu_mgp (x : Au) : (s.setAu x).mgp = s.mgp := rfl
@[simp] theorem State.setAu_au (x : Au) : (s.setAu x).au = x := rfl
@[simp] theorem State.setAu_out (x : Au) : (s.setAu x).out = s.out := rfl
@[simp] theorem State.setAu_pending (x : Au) : (s.setAu x).pending = s.pending := rfl

@[simp] theorem State.setOut_phase (x : List Output) : (s.setOut x).phase = s.phase := rfl
@[simp] theorem State.setOut_cp (x : List Output) : (s.setOut x).cp = s.cp := rfl
@[simp] theorem State.setOut_mp (x : List Output) : (s.setOut x).mp = s.mp := rfl
@[simp] theorem State.setOut_gm (x : List Output) : (s.setOut x).gm = s.gm := rfl
@[simp] theorem State.setOut_se (x : List Output) : (s.setOut x).se = s.se := rfl
@[simp] theorem State.setOut_st (x : List Output) : (s.setOut x).st = s.st := rfl
@[simp] theorem State.setOut_sr (x : List Output) : (s.setOut x).sr = s.sr := rfl
@[simp] theorem State.setOut_sc (x : List Output) : (s.setOut x).sc = s.sc := rfl
@[simp] theorem State.setOut_cvu (x : List Output) : (s.setOut x).cvu = s.cvu := rfl
@[simp] theorem State.setOut_mgp (x : List Output) : (s.setOut x).mgp = s.mgp := rfl
@[simp] theorem State.setOut_au (x : List Output) : (s.setOut x).au = s.au := rfl
@[simp] theorem State.setOut_out (x : List Output) : (s.setOut x).out = x := rfl
@[simp] theorem State.setOut_pending (x : List Output) : (s.setOut x).pending = s.pending := rfl

@[simp] theorem State.setPending_phase (x : List Instr) : (s.setPending x).phase = s.phase := rfl
@[simp] theorem State.setPending_cp (x : List Instr) : (s.setPending x).cp = s.cp := rfl
@[simp] theorem State.setPending_mp (x : List Instr) : (s.setPending x).mp = s.mp := rfl
@[simp] theorem State.setPending_gm (x : List Instr) : (s.setPending x).gm = s.gm := rfl
@[simp] theorem State.setPending_se (x : List Instr) : (s.setPending x).se = s.se := rfl
@[simp] theorem State.setPending_st (x : List Instr) : (s.setPending x).st = s.st := rfl
@[simp] theorem State.setPending_sr (x : List Instr) : (s.setPending x).sr = s.sr := rfl
@[simp] theorem State.setPending_sc (x : List Instr) : (s.setPending x).sc = s.sc := rfl
@[simp] theorem State.setPending_cvu (x : List Instr) : (s.setPending x).cvu = s.cvu := rfl
@[simp] theorem State.setPending_mgp (x : List Instr) : (s.setPending x).mgp = s.mgp := rfl
@[simp] theorem State.setPending_au (x : List Instr) : (s.setPending x).au = s.au := rfl
@[simp] theorem State.setPending_out (x : List Instr) : (s.setPending x).out = s.out := rfl
@[simp] theorem State.setPending_pending (x : List Instr) : (s.setPending x).pending = x := rfl

end Sys2Proof.Machine
end

