-- ==== Sys2Proof/Laws/Ops.lean ====
section
/-! SUPPORT. What the operations of every unit do: the frame of an event and of a command, the outputs, flags and counters, the
request table. -/

namespace Sys2Proof.Machine

open Sys2Proof

variable (s : State)

/-! ### The frame of an event -/

/-- An event of a running part. -/
theorem event_running (f : State → State) (h : s.phase = .running) : event s f = .next (f (s.setOut [])) := by
  simp [event, h]

/-- In a reset nothing is taken. -/
theorem event_in_reset (f : State → State) (h : s.phase ≠ .running) : event s f = .next (s.setOut []) := by
  simp [event, h]

/-- An event always answers a next state. -/
theorem event_next (f : State → State) : ∃ t, event s f = .next t := ⟨_, rfl⟩

/-! ### The frame of a command -/

/-- A command that its checks accept. -/
theorem command_accepted {guarded enable : Bool} {n : Nat} {ps data : List Byte} {body : State → CommandResult} {t : State}
    (h : s.phase = .running) (hb : checked guarded n ps body (s.setOut []) = .accept t data) :
    command guarded n enable ps body s = .next (t.finish guarded enable .ok data) := by
  simp [command, event, h, hb]

/-- A command that its checks refuse changes what `finish` writes and nothing else (R179). -/
theorem command_refused {guarded enable : Bool} {n : Nat} {ps : List Byte} {body : State → CommandResult} {c : ResultCode}
    (h : s.phase = .running) (hb : checked guarded n ps body (s.setOut []) = .refuse c) :
    command guarded n enable ps body s = .next ((s.setOut []).finish guarded false c []) := by
  simp [command, event, h, hb]

/-- A guarded command with the arm latch clear (R179, R180). -/
theorem checked_unarmed {n : Nat} {ps : List Byte} {body : State → CommandResult} (h : s.mgp.armLatch = false) :
    checked true n ps body s = .refuse .unarmed := by
  simp [checked, h]

/-- A command of the right length that is not guarded, or that finds the latch set, comes to its own checks (R179). -/
theorem checked_body {guarded : Bool} {n : Nat} {ps : List Byte} {body : State → CommandResult}
    (hg : guarded = true → s.mgp.armLatch = true) (hn : ps.length = n) : checked guarded n ps body s = body s := by
  cases guarded <;> simp_all [checked]

/-- A command of another length (R179). -/
theorem checked_length {guarded : Bool} {n : Nat} {ps : List Byte} {body : State → CommandResult}
    (hg : guarded = true → s.mgp.armLatch = true) (hn : ps.length ≠ n) : checked guarded n ps body s = .refuse .param := by
  cases guarded <;> simp_all [checked]

/-- What the end of a command's transaction writes. -/
theorem State.finish_eq (guarded enable : Bool) (c : ResultCode) (data : List Byte) :
    s.finish guarded enable c data = s.setMgp { s.mgp with
      armLatch := s.mgp.armLatch && !guarded, resetEnable := enable, reply := ⟨c, data⟩, lastResult := c } := rfl

/-! ### Outputs, alerts, counters, events -/

/-- Putting one thing out. -/
theorem State.emit_eq (o : Output) : s.emit o = s.setOut (s.out ++ [o]) := rfl

/-- Raising an alert. -/
theorem State.raise_eq (a : Alert) : s.raise a = s.setAu { s.au with latch := s.au.latch ||| a.bit } := rfl

/-- Raising an alert under a condition. -/
theorem State.raiseIf_eq (c : Bool) (a : Alert) :
    s.raiseIf c a = s.setAu { s.au with latch := if c then s.au.latch ||| a.bit else s.au.latch } := by
  cases c <;> rfl

/-- A raise sets its own flag and no other. -/
theorem State.latched_raise (a b : Alert) : (s.raise a).latched b = (s.latched b || decide (b = a)) := by
  simp only [State.raise, State.latched, State.setAu_au, BitVec.getLsbD_or]
  congr 1
  cases a <;> cases b <;> decide

/-- Raising a counter. -/
theorem State.count_eq (c : Counter) : s.count c = s.setMgp { s.mgp with counters := s.mgp.counters.bump c } := rfl

/-- A raise lifts its own counter, up to 24 bits, and no other (R185). -/
theorem Counters.get_bump (k : Counters) (a b : Counter) :
    (k.bump a).get b = if a = b then min 16777215 (k.get b + 1) else k.get b := by
  cases a <;> cases b <;> rfl

/-- Capturing an event. -/
theorem State.capture_eq (k : EventKind) (g : Option Nat) (d : Detail) : s.capture k g d = s.setMgp { s.mgp with
    event := ⟨k, g, d, s.eventPass, true, s.mgp.event.overrun || s.mgp.event.unread⟩ } := rfl

/-! ### The request table -/

/-- Taking a record back. -/
theorem State.takeRecord_eq (tag : Nat) : s.takeRecord tag = s.setMp { s.mp with
    credits := s.mp.credits + 1, table := s.mp.table.filter fun r => r.tag != tag } := rfl

/-- The record of a tag is in the table under that tag. -/
theorem State.recordOf_some {tag : Nat} {r : MemRecord} (h : s.recordOf tag = some r) : r ∈ s.mp.table ∧ r.tag = tag := by
  have h1 := List.find?_some h
  exact ⟨List.mem_of_find?_eq_some h, by simpa using h1⟩

/-- A tag has a record exactly when it is among the table's tags. -/
theorem State.recordOf_isSome (tag : Nat) : (s.recordOf tag).isSome = true ↔ tag ∈ s.mp.table.map MemRecord.tag := by
  simp [State.recordOf, List.find?_isSome]

/-- A free own tag is an own tag without a record (R30). -/
theorem State.freeOwnTag_some {t : Nat} (h : s.freeOwnTag = some t) : 64 ≤ t ∧ t < 80 ∧ s.recordOf t = none := by
  have hm := List.mem_of_find?_eq_some h
  have hp := List.find?_some h
  simp only [Config.ownTags, Config.firstOwnTag, List.mem_map, List.mem_range] at hm
  obtain ⟨a, ha, rfl⟩ := hm
  exact ⟨by omega, by omega, by simpa using hp⟩

/-- Dropping the data of own requests leaves every tag, kind and address (R34). -/
theorem State.dropOwn_tags : s.dropOwn.mp.table.map MemRecord.tag = s.mp.table.map MemRecord.tag := by
  simp [State.dropOwn, Function.comp_def]

/-- Dropping the data of own requests leaves every credit. -/
theorem State.dropOwn_credits : s.dropOwn.mp.credits = s.mp.credits := rfl

end Sys2Proof.Machine
end

