-- ==== Sys2Proof/Laws/Sessions.lean ====
section
/-! SUPPORT. What the ends of a session leave, in the words of Safety. -/

namespace Sys2Proof.Machine

open Sys2Proof

variable (s : State)

/-- The request records after their own requests are dropped. -/
theorem State.dropOwn_eq : s.dropOwn = s.setMp { s.mp with table := s.droppedTable } := by
  have h : (s.mp.table.map fun r => ({ r with owner := r.owner.dropped } : MemRecord)) = s.droppedTable := by
    unfold State.droppedTable
    apply List.map_congr_left
    intro r _
    rcases r with ⟨a, b, c, d⟩
    cases b <;> rfl
  simp only [State.dropOwn, h]

/-- A SOURCE leaves its session for IDLE by a refusal or a detach (R131, R140). -/
theorem State.endSource_eq (x : SessionState) : s.endSource x = s.leftSource x s.st.newestSent := by
  simp only [State.endSource, State.dropOwn_eq]
  rfl

/-- A SOURCE leaves its session by link loss, ABORT or TAKEN (R101, R135). -/
theorem State.flushSource_eq (x : SessionState) : s.flushSource x = s.leftSource x none := by
  simp only [State.flushSource, State.endSource_eq]
  rfl

/-- The completion of a detach (R140). -/
theorem State.detachComplete_eq : s.detachComplete = s.leftSource .idle s.st.newestSent := State.endSource_eq s .idle

/-- A TARGET enters IDLE (R146). -/
theorem State.endTarget_eq : s.endTarget = s.leftTarget := by
  simp only [State.endTarget, State.dropOwn_eq]
  rfl

/-- The completion of a takeover (R144). -/
theorem State.takeoverComplete_eq :
    s.takeoverComplete = (s.setSc { s.sc with synced := s.sc.synced || !s.sc.unsynced }).leftTarget := by
  simp only [State.takeoverComplete, State.endTarget_eq]

/-- A TARGET that is not in SHADOW stays where it is (R142). -/
theorem State.returnToFilling_other (h : s.targetIn .shadow = false) : s.returnToFilling = s := by
  simp [State.returnToFilling, h]

/-- A TARGET that takes the copy stream loses its clean flag, and SHADOW with it (R119, R121). -/
theorem State.clearClean_receiving (h : s.receiving = true) : s.clearClean =
    (s.setSr { s.sr with clean := false }).setSc { s.sc with
      state := .filling, unsynced := s.sc.unsynced || (s.sc.state == .shadow && s.sc.takeoverPending) } := by
  simp only [State.clearClean, h, if_true, State.returnToFilling, State.targetIn, State.setSr_sc]
  have hr : s.sc.role = .target := by
    simp only [State.receiving, State.targetIn, Bool.or_eq_true, Bool.and_eq_true, beq_iff_eq] at h
    rcases h with ⟨h, _⟩ | ⟨h, _⟩ <;> exact h
  by_cases hs : s.sc.state = .shadow
  · simp [hr, hs]
  · have hf : s.sc.state = .filling := by
      simp only [State.receiving, State.targetIn, Bool.or_eq_true, Bool.and_eq_true, beq_iff_eq] at h
      rcases h with ⟨_, h⟩ | ⟨_, h⟩
      · exact h
      · exact absurd h hs
    have e : (SessionState.filling == SessionState.shadow) = false := rfl
    simp only [hf, hr, State.setSc, State.setSr, e, Bool.and_false, Bool.false_eq_true, if_false, Bool.false_and, Bool.or_false]
    rw [← hf, ← hr]

end Sys2Proof.Machine
end

