-- ==== Sys2Proof/Laws/Ports.lean ====
section
/-! SUPPORT. What the client port, the memory port and the claims of the receiver do. -/

namespace Sys2Proof.Machine

open Sys2Proof

variable (s : State)

/-! ### CP -/

/-- A client tag is outstanding exactly when it is among the tags in use (R23). -/
theorem State.tagOutstanding_iff (t : Nat) : s.tagOutstanding t = true ↔ t ∈ s.tagsInUse := by
  simp [State.tagOutstanding, State.tagsInUse, State.recordOf, List.find?_isSome]

/-- A head that is not refused stands (R28). -/
theorem State.judgeHead_stands (h : s.headRefused = false) : s.judgeHead = s := by
  unfold State.judgeHead
  cases hn : s.cp.queue.length with
  | zero => rfl
  | succ n =>
    unfold State.judgeFor
    cases hq : s.cp.queue with
    | nil => rfl
    | cons r rest => cases r <;> simp_all [State.headRefused]

/-- Judging refuses requests at the head: it changes CP, MGP and the outputs, and no other unit (R28). -/
theorem State.judgeFor_frame (n : Nat) (s : State) :
    (State.judgeFor n s).phase = s.phase ∧ (State.judgeFor n s).mp = s.mp ∧ (State.judgeFor n s).gm = s.gm ∧
    (State.judgeFor n s).se = s.se ∧ (State.judgeFor n s).st = s.st ∧ (State.judgeFor n s).sr = s.sr ∧
    (State.judgeFor n s).sc = s.sc ∧ (State.judgeFor n s).cvu = s.cvu ∧ (State.judgeFor n s).au = s.au ∧
    (State.judgeFor n s).pending = s.pending := by
  induction n generalizing s with
  | zero => simp [State.judgeFor]
  | succ n ih =>
    unfold State.judgeFor
    split
    · split
      · simp [ih, State.refuseHead, State.returnCredit, State.emit, State.count_eq, State.capture_eq]
      · simp
    · simp

/-- After the head has been judged it stands (R28). -/
theorem State.judgeHead_judged : s.judgeHead.headRefused = false := by
  have key : ∀ (n : Nat) (s : State), s.cp.queue.length ≤ n → (State.judgeFor n s).headRefused = false := by
    intro n
    induction n with
    | zero =>
      intro s h
      have : s.cp.queue = [] := List.length_eq_zero_iff.1 (by omega)
      simp [State.judgeFor, State.headRefused, this]
    | succ n ih =>
      intro s h
      unfold State.judgeFor
      split
      · rename_i t a m d rest hq
        split
        · apply ih
          simp [State.refuseHead, State.returnCredit, State.emit, State.count_eq, State.capture_eq, hq]
          simp [hq] at h
          omega
        · rename_i hf
          simp only [State.headRefused, hq]
          simpa using hf
      · rename_i hq
        unfold State.headRefused
        split
        · rename_i h2
          exact absurd h2 (hq _ _ _ _ _)
        · simp
  exact key _ s (Nat.le_refl _)

/-! ### MP -/

/-- A grant sends one request, makes its record and spends a credit (R31, R32). -/
theorem State.grantRecord_eq (r : MemRecord) (q : MemRequest) : s.grantRecord r q =
    (s.setMp { s.mp with credits := s.mp.credits - 1, table := s.mp.table ++ [r] }).setOut
      (s.out ++ [.memRequest r.tag q]) := rfl

/-- A credit goes back to the client (R24). -/
theorem State.returnCredit_eq : s.returnCredit =
    (s.setCp { s.cp with credits := s.cp.credits + 1 }).setOut (s.out ++ [.clientCredits 1]) := rfl

/-- The OWN class is ready with a free own tag and the offer (R36). -/
theorem State.ownReady_some {t : Nat} {o : OwnOffer} (h : s.ownReady = some (t, o)) :
    s.freeOwnTag = some t ∧ s.ownOffer = some o := by
  unfold State.ownReady at h
  split at h
  · cases h; constructor <;> assumption
  · cases h

/-- No class ready, no credit: no grant (R36). -/
theorem State.arbitrate_none (h : s.mp.credits = 0) : s.arbitrate = s := by simp [State.arbitrate, h]

/-! ### Claims on the return list -/

/-- With no claim that can be placed and no frame to process, nothing more happens (R108, R117). -/
theorem State.pumpFor_settled (n : Nat) (h1 : s.placeable = none) (h2 : s.unprocessed = none) :
    State.pumpFor n s = s := by
  cases n <;> simp [State.pumpFor, h1, h2]

/-- The same of `pump`. -/
theorem State.pump_settled (h1 : s.placeable = none) (h2 : s.unprocessed = none) : s.pump = s :=
  State.pumpFor_settled s _ h1 h2

/-- A claim is placed only where the return list has a place (R100). -/
theorem State.placeable_room {c : Claim} (h : s.placeable = some c) : s.st.returnList.length < 16 := by
  unfold State.placeable at h
  split at h
  · simpa [Config.returnPlaces] using ‹_›
  · cases h

end Sys2Proof.Machine
end

