-- ==== Sys2Proof/Laws/Receive.lean ====
section
/-! SUPPORT. What the receiver and the return list leave alone: the client port, the map, SE, CVU, the outputs and the queue. -/

namespace Sys2Proof.Machine

open Sys2Proof

/-- The units that no step of the receiver touches. -/
def State.beyondReceiver (s : State) : Phase × Cp × Gm × Se × Cvu × List Output × List Instr :=
  (s.phase, s.cp, s.gm, s.se, s.cvu, s.out, s.pending)

variable (s : State)

@[simp] theorem State.beyondReceiver_setSr (x : Sr) : (s.setSr x).beyondReceiver = s.beyondReceiver := rfl
@[simp] theorem State.beyondReceiver_setSt (x : St) : (s.setSt x).beyondReceiver = s.beyondReceiver := rfl
@[simp] theorem State.beyondReceiver_setSc (x : Sc) : (s.setSc x).beyondReceiver = s.beyondReceiver := rfl
@[simp] theorem State.beyondReceiver_setMgp (x : Mgp) : (s.setMgp x).beyondReceiver = s.beyondReceiver := rfl
@[simp] theorem State.beyondReceiver_setAu (x : Au) : (s.setAu x).beyondReceiver = s.beyondReceiver := rfl
@[simp] theorem State.beyondReceiver_setMp (x : Mp) : (s.setMp x).beyondReceiver = s.beyondReceiver := rfl
@[simp] theorem State.beyondReceiver_count (c : Counter) : (s.count c).beyondReceiver = s.beyondReceiver := rfl
@[simp] theorem State.beyondReceiver_capture (k : EventKind) (g : Option Nat) (d : Detail) :
    (s.capture k g d).beyondReceiver = s.beyondReceiver := rfl
@[simp] theorem State.beyondReceiver_raise (a : Alert) : (s.raise a).beyondReceiver = s.beyondReceiver := rfl
@[simp] theorem State.beyondReceiver_setState (x : SessionState) :
    (s.setState x).beyondReceiver = s.beyondReceiver := rfl
@[simp] theorem State.beyondReceiver_setLatch (x : Option Latch) :
    (s.setLatch x).beyondReceiver = s.beyondReceiver := rfl
@[simp] theorem State.beyondReceiver_appendReturn (f : Frame) :
    (s.appendReturn f).beyondReceiver = s.beyondReceiver := rfl
@[simp] theorem State.beyondReceiver_raiseFreed : s.raiseFreed.beyondReceiver = s.beyondReceiver := rfl
@[simp] theorem State.beyondReceiver_endTarget : s.endTarget.beyondReceiver = s.beyondReceiver := rfl
@[simp] theorem State.beyondReceiver_targetFault (r : FaultReason) :
    (s.targetFault r).beyondReceiver = s.beyondReceiver := rfl

@[simp] theorem State.beyondReceiver_freeSlot : s.freeSlot.beyondReceiver = s.beyondReceiver := by
  unfold State.freeSlot; split <;> simp
@[simp] theorem State.beyondReceiver_returnToFilling : s.returnToFilling.beyondReceiver = s.beyondReceiver := by
  unfold State.returnToFilling; split <;> simp
@[simp] theorem State.beyondReceiver_clearClean : s.clearClean.beyondReceiver = s.beyondReceiver := by
  unfold State.clearClean; split <;> simp
@[simp] theorem State.beyondReceiver_discardTarget (f : Frame) :
    (s.discardTarget f).beyondReceiver = s.beyondReceiver := by simp [State.discardTarget, State.discard]
@[simp] theorem State.beyondReceiver_protect (g a : Nat) : (s.protect g a).beyondReceiver = s.beyondReceiver := by
  simp [State.protect]
@[simp] theorem State.beyondReceiver_decideNeed (g : Nat) : (s.decideNeed g).beyondReceiver = s.beyondReceiver := by
  unfold State.decideNeed; split <;> simp
@[simp] theorem State.beyondReceiver_decideNeedFor (g : Option Nat) :
    (s.decideNeedFor g).beyondReceiver = s.beyondReceiver := by cases g <;> simp [State.decideNeedFor]
@[simp] theorem State.beyondReceiver_decideLoss (e : BitVec 16) (g : Nat) :
    (s.decideLoss e g).beyondReceiver = s.beyondReceiver := by
  unfold State.decideLoss; split <;> simp
@[simp] theorem State.beyondReceiver_leaveHead : s.leaveHead.beyondReceiver = s.beyondReceiver := by
  simp [State.leaveHead]
@[simp] theorem State.beyondReceiver_headBecomes (as : List Answer) (w : Option ApplyWrite) :
    (s.headBecomes as w).beyondReceiver = s.beyondReceiver := by
  unfold State.headBecomes; split <;> simp
@[simp] theorem State.beyondReceiver_releaseTaken : s.releaseTaken.beyondReceiver = s.beyondReceiver := by
  unfold State.releaseTaken; split
  · simp
  · split <;> simp
@[simp] theorem State.beyondReceiver_settleLatch : s.settleLatch.beyondReceiver = s.beyondReceiver := by
  simp [State.settleLatch]

/-- Processing the head of the receive buffer (R108). -/
@[simp] theorem State.beyondReceiver_processHead (f : Frame) : (s.processHead f).beyondReceiver = s.beyondReceiver := by
  cases f with
  | line o p i d =>
    simp only [State.processHead, State.processLine]
    split
    · split
      · split <;> simp
      · simp
    · simp
  | mirror q a m d =>
    simp only [State.processHead, State.processMirror]
    split
    · simp
    · split <;> simp only [State.judgeMirror] <;> split <;> (try split) <;> simp
  | opening g o =>
    simp only [State.processHead, State.processOpen]
    split
    · split <;> simp
    · simp
  | mark n k =>
    simp only [State.processHead, State.processMark]
    split
    · split
      · simp
      · cases k <;> simp
        split <;> simp
    · simp
  | _ => simp only [State.processHead, State.processClose]; split <;> simp

/-- Placing a claim on the return list (R117). -/
@[simp] theorem State.beyondReceiver_appendClaim (c : Claim) : (s.appendClaim c).beyondReceiver = s.beyondReceiver := by
  have answered : ∀ s : State, s.answered.beyondReceiver = s.beyondReceiver := by
    intro s; unfold State.answered; split <;> simp
  cases c with
  | answer a =>
    cases a <;> simp [State.appendClaim, State.appendAnswer, answered, State.appendReady]
    split <;> simp
  | _ => simp [State.appendClaim, State.appendCredit]

/-- The receiver and the return list settle without touching the other units (R108, R117). -/
@[simp] theorem State.beyondReceiver_pump : s.pump.beyondReceiver = s.beyondReceiver := by
  have key : ∀ (n : Nat) (s : State), (State.pumpFor n s).beyondReceiver = s.beyondReceiver := by
    intro n
    induction n with
    | zero => intro s; rfl
    | succ n ih =>
      intro s
      unfold State.pumpFor
      split
      · simp [ih]
      · split <;> simp [ih]
  exact key _ s

/-! ### The clean flag -/

/-- The clean flag is clear once it has been cleared in FILLING or SHADOW (R119). -/
theorem State.clearClean_clean (h : s.receiving = true) : s.clearClean.sr.clean = false := by
  simp only [State.clearClean, h, if_true]
  unfold State.returnToFilling
  split <;> rfl

/-- A decided LOSS leaves the clean flag clear, whatever the state (R112, R119). -/
theorem State.decideLoss_clean (e : BitVec 16) (g : Nat) : (s.decideLoss e g).sr.clean = false := by
  unfold State.decideLoss
  split
  · exact State.clearClean_clean _ ‹_›
  · rfl

end Sys2Proof.Machine
end

