-- ==== Sys2Proof/Laws/Wire.lean ====
section
/-! SUPPORT. Numbers on the wire: what `toBytes` writes `fromBytes` reads (R196); the length of a frame's bytes. -/

namespace Sys2Proof.Machine

open Sys2Proof

/-- A number of n bytes has n bytes. -/
@[simp] theorem length_toBytes (n x : Nat) : (toBytes n x).length = n := by
  induction n with
  | zero => rfl
  | succ n ih => simp [toBytes, ih]

/-- Reading goes on from what has been read. -/
theorem fromBytes_append (a b : List Byte) : fromBytes (a ++ b) = fromBytes a * 256 ^ b.length + fromBytes b := by
  have key : ∀ (b : List Byte) (i : Nat),
      b.foldl (fun acc x => acc * 256 + x.toNat) i = i * 256 ^ b.length + b.foldl (fun acc x => acc * 256 + x.toNat) 0 := by
    intro b
    induction b with
    | nil => intro i; simp
    | cons x xs ih => intro i; simp only [List.foldl_cons, List.length_cons]; rw [ih, ih (0 * 256 + x.toNat)]; ring
  simp only [fromBytes, List.foldl_append]
  exact key b _

/-- What is written is read back, but for the bytes above the width (R196). -/
theorem fromBytes_toBytes (n x : Nat) : fromBytes (toBytes n x) = x % 256 ^ n := by
  induction n with
  | zero => simp [toBytes, fromBytes, Nat.mod_one]
  | succ n ih =>
    rw [toBytes, ← List.singleton_append, fromBytes_append, ih, length_toBytes]
    simp only [fromBytes, List.foldl_cons, List.foldl_nil, BitVec.toNat_ofNat]
    have h : x % 256 ^ (n + 1) = x % 256 ^ n + 256 ^ n * (x / 256 ^ n % 256) := by
      rw [pow_succ, Nat.mod_mul]
    rw [h]; ring

/-- A frame is its body and two bytes of CRC. -/
theorem Frame.length_bytes (f : Frame) : f.bytes.length = f.body.length + 2 := by simp [Frame.bytes, withCrc]

/-- The body of a frame that goes out. -/
theorem Frame.body_bytes (f : Frame) : frameBody f.bytes = f.body := by simp [frameBody, Frame.bytes, withCrc]

/-- A frame that goes out carries the CRC of its body (R104, R197). -/
theorem Frame.crc_bytes (f : Frame) : crcChecks f.bytes = true := by
  simp [crcChecks, Frame.body_bytes, Frame.length_bytes]
  simp [Frame.bytes, withCrc]

end Sys2Proof.Machine
end

