-- ==== Sys2Proof/Laws/Records.lean ====
section
/-! SUPPORT. What the records show, by role, how long they are, and what SET_SESSION leaves CVU. -/

namespace Sys2Proof.Machine

open Sys2Proof

variable (s : State)

/-! ### SE as the records show it -/

/-- A part that is no TARGET shows SE as it stands. -/
theorem State.shownSe_of_ne (h : s.sc.role ≠ .target) : s.shownSe = s.se := if_neg h

/-- A TARGET shows the plan and the values after reset (R82). -/
theorem State.shownSe_target (h : s.sc.role = .target) : s.shownSe = { Se.initial with plan := s.se.plan } := if_pos h

/-- The plan is shown in every role. -/
@[simp] theorem State.shownSe_plan : s.shownSe.plan = s.se.plan := by
  unfold State.shownSe
  split <;> rfl

/-! ### The pass record as READ_PASS shows it -/

/-- A part that is no TARGET shows the record as it stands, that of an ended session too (R159). -/
theorem State.shownRecord_of_ne (h : s.sc.role ≠ .target) : s.shownRecord = s.cvu.record := if_neg h

/-- A TARGET shows the cleared record (R149, R159). -/
theorem State.shownRecord_target (h : s.sc.role = .target) : s.shownRecord = PassRecord.cleared := if_pos h

/-! ### Lengths (11.3) -/

/-- The open record takes ten bytes, present or absent. -/
@[simp] theorem length_openBytes (r : Option OpenRecord) : (openBytes r).length = 10 := by
  cases r <;> simp [openBytes]

/-- The cursor reply is 33 bytes. -/
@[simp] theorem Se.length_cursorBytes (e : Se) : e.cursorBytes.length = 33 := by simp [Se.cursorBytes]

/-! ### CVU at SET_SESSION -/

/-- A part that becomes a TARGET keeps the record of an earlier session, hidden from READ_PASS, and nothing else of CVU (R149, R159). -/
theorem Cvu.forRole_target (c : Cvu) (share : Nat) :
    c.forRole .target share = { Cvu.initial with share := share, record := c.record } := rfl

/-- The record stands at SET_SESSION, in every role (R159). -/
@[simp] theorem Cvu.forRole_record (c : Cvu) (role : Role) (share : Nat) : (c.forRole role share).record = c.record := by
  unfold Cvu.forRole
  split <;> rfl

/-- Any other part keeps CVU but for the share in use (R181). -/
theorem Cvu.forRole_of_ne (c : Cvu) {role : Role} (share : Nat) (h : role ≠ .target) :
    c.forRole role share = { c with share := share } := if_neg h

/-- The share in use is the one given, in every role (R156). -/
@[simp] theorem Cvu.forRole_share (c : Cvu) (role : Role) (share : Nat) : (c.forRole role share).share = share := by
  unfold Cvu.forRole
  split <;> rfl

end Sys2Proof.Machine
end

