-- ==== Sys2Proof/Laws/Sweep.lean ====
section
/-! SUPPORT. What the appends to the TXQ and the transitions of the map do, case by case. -/

namespace Sys2Proof.Machine

open Sys2Proof

variable (s : State)

/-! ### The TXQ -/

/-- An append puts one entry at the tail and raises TXQ_HIGH at the 63rd (R84, R90). -/
theorem State.appendTx_eq (e : TxEntry) : s.appendTx e = (s.setSt { s.st with txq := s.st.txq ++ [e] }).setAu { s.au with
    latch := if s.st.txq.length = 62 then s.au.latch ||| Alert.txqHigh.bit else s.au.latch } := by
  simp only [State.appendTx, State.raiseIf_eq]
  by_cases h : s.st.txq.length = 62 <;> simp [h]

/-- A mark with room goes to the tail (R89). -/
theorem State.appendMark_room (k : MarkKind) (h : s.st.txq.length < 64) (hp : s.st.pendingMarks = []) :
    s.appendMark k = s.appendTx (.frame (.mark s.sc.session k)) := by
  simp [State.appendMark, Config.txqPlaces, h, hp]

/-- A mark without room waits if the pending mark list has a place (R89). -/
theorem State.appendMark_waits (k : MarkKind) (h : ¬ (s.st.txq.length < 64 ∧ s.st.pendingMarks = []))
    (hp : s.st.pendingMarks.length < 8) :
    s.appendMark k = s.setSt { s.st with pendingMarks := s.st.pendingMarks ++ [⟨s.sc.session, k⟩] } := by
  simp [State.appendMark, Config.txqPlaces, Config.pendingMarkPlaces, h, hp]

/-- A mark that finds both full is dropped (R89). -/
theorem State.appendMark_dropped (k : MarkKind) (h : ¬ (s.st.txq.length < 64 ∧ s.st.pendingMarks = []))
    (hp : 8 ≤ s.st.pendingMarks.length) : s.appendMark k = s.dropMark k := by
  simp [State.appendMark, Config.txqPlaces, Config.pendingMarkPlaces, h, Nat.not_lt.2 hp]

/-- Appending a mark that is not RELEASE leaves the map, SE, SC, CVU, the ports and the outputs. -/
theorem State.appendMark_frame (k : MarkKind) (hk : k ≠ .release) :
    (s.appendMark k).phase = s.phase ∧ (s.appendMark k).cp = s.cp ∧ (s.appendMark k).mp = s.mp ∧
    (s.appendMark k).gm = s.gm ∧ (s.appendMark k).se = s.se ∧ (s.appendMark k).sr = s.sr ∧ (s.appendMark k).sc = s.sc ∧
    (s.appendMark k).cvu = s.cvu ∧ (s.appendMark k).out = s.out ∧ (s.appendMark k).pending = s.pending := by
  unfold State.appendMark
  split
  · simp [State.appendTx_eq]
  · split
    · simp
    · simp [State.dropMark, hk, State.count_eq, State.capture_eq]

/-! ### Transitions into DIRTY -/

/-- MARK-DIRTY does one of three things (R7). -/
theorem State.markDirty_cases (g : Nat) :
    (s.markOutcome g = .dirtied ∧ s.markDirty g = s.dirty g) ∨ (s.markOutcome g = .stale ∧ s.markDirty g = s.markStale) ∨
    (s.markOutcome g ≠ .dirtied ∧ s.markOutcome g ≠ .stale ∧ s.markDirty g = s) := by
  unfold State.markDirty
  cases h : s.markOutcome g <;> simp

/-- What each outcome of MARK-DIRTY says of the granule (R7). -/
theorem State.markOutcome_dirtied {g : Nat} (h : s.markOutcome g = .dirtied) :
    s.entry g = some .copied ∧ s.isOpen g = false := by
  unfold State.markOutcome at h
  split at h <;> (try split at h) <;> (try split at h) <;> simp_all

/-- A granule that is answered stale is the open one (R7). -/
theorem State.markOutcome_stale {g : Nat} (h : s.markOutcome g = .stale) :
    s.isOpen g = true ∧ s.entry g ≠ none ∧ s.entry g ≠ some .excluded := by
  unfold State.markOutcome at h
  split at h <;> (try split at h) <;> (try split at h) <;> simp_all

/-- Outside SHADOW, and with D above 0 before it, a COPIED granule becomes DIRTY with nothing else set going (R7, R10). -/
theorem State.dirty_plain (g : Nat) (hs : s.sourceIn .shadow = false) (hd : 0 < s.d) :
    s.dirty g = s.setGm (s.gm.dirtied g s.se.betweenPasses) := by
  have h0 : s.d ≠ 0 := by omega
  unfold State.dirty
  simp only [h0, if_false, hs, Bool.false_eq_true]

/-- A transition into DIRTY changes the map, the census and the one count it belongs to: between passes that of the next pass, otherwise
that of the current one (R7, R9, R10, R150). -/
theorem Gm.dirtied_eq (g : Gm) (i : Nat) (between : Bool) : g.dirtied i between = { g with
    map := g.map.map (·.set i .dirty)
    census := { g.census with copied := g.census.copied - 1, dirty := g.census.dirty + 1 }
    nd := if between then g.nd else min 16777215 (g.nd + 1)
    ndNext := if between then min 16777215 (g.ndNext + 1) else g.ndNext } := by
  cases between <;> rfl

/-- A rinse pass starts with the pass counts at 0 and keeps what the wait counted toward it (R10, R70, R150). -/
theorem State.startRinse_gm : s.startRinse.gm = { s.gm with nc := 0, nd := 0 } := rfl

/-- At a pass end CVU takes N_d with what the wait before the pass counted toward it, and that is used up (R150). -/
theorem State.takePassEnd_nd : s.takePassEnd.cvu.record.nd = min 16777215 (s.gm.nd + s.gm.ndNext) ∧
    s.takePassEnd.gm = { s.gm with ndNext := 0 } := by
  unfold State.takePassEnd
  constructor <;> simp [State.raiseIf_eq, Gm.passNd, Config.max24]

/-- The open record marked stale. -/
theorem State.markStale_eq : s.markStale = s.setSe { s.se with
    opened := s.se.opened.map fun r => { r with stale := true } } := rfl

/-! ### Passes -/

/-- With a granule open, or nothing running, no pass or round ends (R71, R72, R78). -/
theorem State.scanCheck_idle (h : s.se.opened.isSome = true ∨ s.se.running = false) : s.scanCheck = s := by
  unfold State.scanCheck
  rcases h with h | h <;> simp [h]

/-- The close is due for the open record alone, in a state in which SE works (R67). -/
theorem State.closeDue_some {r : OpenRecord} (h : s.closeDue = some r) :
    s.se.opened = some r ∧ s.sweeping = true ∧ 1024 ≤ r.nextLine ∧ s.st.txq.length < 48 := by
  unfold State.closeDue at h
  split at h
  · split at h
    · rename_i hc
      cases h
      simp [Config.linesPerGranule, State.belowCeiling, Config.sweepCeiling] at hc
      exact ⟨by assumption, hc.1.1, of_decide_eq_true hc.1.2, of_decide_eq_true hc.2⟩
    · cases h
  · cases h

/-- A close that is not due is not taken (R67). -/
theorem State.closeIfDue_none (h : s.closeDue = none) : s.closeIfDue = s := by simp [State.closeIfDue, h]

end Sys2Proof.Machine
end

