-- ==== Sys2Proof/Tests/Slice0.lean ====
section
/-! SUPPORT. Tests: ill-formed commands, the wire, one or two steps of each command against the spec's worked examples, and for
each obligation with hypotheses a state and operands that meet them. -/

namespace Sys2Proof.Tests

open Sys2Proof Sys2Proof.Machine

-- One theorem after another: each `decide +kernel` waits for the declarations before it, and waiting threads hold memory.
set_option Elab.async false

/-! ### Helpers -/

/-- One field of the next state. -/
def at1 {α : Type} (c : Instr) (s : State) (f : State → α) : Option α :=
  match exec c s with
  | .next t => some (f t)
  | _ => none

/-- A SOURCE of session 7 in a state, span 4, its granules COPIED, DIRTY, UNCOPIED and EXCLUDED. -/
def src (x : SessionState) : State := { State.reset with
  cp := { State.reset.cp with hold := x == .cutover }
  gm := { State.reset.gm with map := some [.copied, .dirty, .uncopied, .excluded], census := ⟨1, 1, 1, 1⟩ }
  st := { State.reset.st with sendCredits := 5, keepalive := ⟨true, 3⟩ }
  sr := { State.reset.sr with silent := ⟨x != .handshake, 0, 0⟩ }
  sc := { State.reset.sc with
    role := .source
    state := x
    session := 7
    params := { Params.defaults with span := 4 }
    linkUp := true
    handshake := ⟨x == .handshake, 5⟩
    holdTimer := ⟨x == .cutover, 5⟩ } }

/-- The same with the map all COPIED, so that D is 0. -/
def done (x : SessionState) : State :=
  { src x with gm := { State.reset.gm with map := some [.copied, .copied, .copied, .excluded], census := ⟨0, 3, 0, 1⟩ } }

/-- A TARGET of session 7 in a state, span 4, its local fences covering granule 3. -/
def tgt (x : SessionState) : State := { State.reset with
  gm := { State.reset.gm with localFences := some ⟨3, 1, false⟩ :: List.replicate 7 none }
  st := { State.reset.st with keepalive := ⟨x == .filling || x == .shadow, 3⟩ }
  sr := { State.reset.sr with silent := ⟨x == .filling || x == .shadow, 0, 0⟩ }
  sc := { State.reset.sc with
    role := .target, state := x, session := 7, params := { Params.defaults with span := 4 }, linkUp := true } }

/-- Whole lines of zeros, and a client write to the first line of a granule. -/
def zeros : LineData := List.replicate 64 0#8
def wr (t : Fin 64) (g : Nat) : ClientRequest := .write t (BitVec.ofNat 30 (g * 1024)) 1#64 zeros

/-- Changes that a witness needs. -/
def armed (s : State) : State := { s with mgp := { s.mgp with armLatch := true } }
def queued (s : State) (q : List ClientRequest) : State := { s with cp := { s.cp with queue := q, credits := 32 - q.length } }
def recorded (s : State) (r : MemRecord) : State := { s with mp := { s.mp with table := [r], credits := 47 } }
def opened (s : State) (r : OpenRecord) : State := { s with se := { s.se with opened := some r } }
def running (s : State) : State := { s with se := { s.se with running := true } }
def marks (n : Nat) : List TxEntry := List.replicate n (.frame .keep)

/-! ### Well-formedness (each check refuses a term) -/

theorem test_wf_request : (Instr.clientRequestArrival (.write 0 0 0 [])).wf = false := by decide
theorem test_wf_response : (Instr.memoryResponse (.data 64 [0#8] false)).wf = false := by decide
theorem test_wf_skip_level : (Instr.skipLevel [2#8]).wf = false := by decide
theorem test_wf_skip_extent : (Instr.skipExtent [1#8]).wf = false ∧ (Instr.skipExtent [3#8]).wf = false ∧
    (Instr.skipExtent [2#8]).wf = true := by decide
theorem test_wf_unknown : (Instr.unknown 0x3B#8 []).wf = false := by decide
theorem test_wf_accepts : (Instr.clientRequestArrival (wr 0 0)).wf = true := by decide

/-! ### The wire (R177, R196, R197, R199) -/

/-- R197: the nine ASCII bytes "123456789" give 0x29B1. -/
theorem test_crc : crc16 [0x31#8, 0x32#8, 0x33#8, 0x34#8, 0x35#8, 0x36#8, 0x37#8, 0x38#8, 0x39#8] = 0x29B1#16 := by decide +kernel

/-- 11.3: OPEN is the kind byte 0x02, the granule in three bytes, the open number. -/
theorem test_open_bytes : (Frame.opening 0x012345#24 90#8).body = [0x02#8, 0x01#8, 0x23#8, 0x45#8, 90#8] := by decide

/-- 11.3: CREDIT is 0x12, the freed count, the ack sequence. -/
theorem test_credit_bytes : (Frame.credit 8#8 0x0102#16).body = [0x12#8, 8#8, 1#8, 2#8] := by decide

/-- R198: a READY with a code that names no answer, and a NEED that is a byte short, are malformed. -/
theorem test_malformed : parseFrame [0x15#8, 7#8, 3#8] = none ∧ parseFrame [0x13#8, 0#8, 0#8] = none := by decide

/-- R199: 0x24 with parameter 1 is SKIP LEVEL, with 2 SKIP EXTENT; 0x38 names no command. -/
theorem test_of_write : Instr.ofWrite false [0x24#8, 1#8] = some (.skipLevel [1#8]) ∧
    Instr.ofWrite false [0x24#8, 2#8] = some (.skipExtent [2#8]) ∧
    Instr.ofWrite false [0x38#8] = some (.unknown 0x38#8 []) ∧ Instr.ofWrite true [] = none := by decide

/-- R178: the address straps are added to 0x28, and a part in a reset acknowledges nothing. -/
theorem test_address : ({ State.reset with mgp := { State.reset.mgp with straps := 5#3 } } : State).acknowledges 0x2D = true ∧
    ({ State.reset with phase := .inLine } : State).acknowledges 0x28 = false := by decide

/-- R177: a read past the end of the reply returns zeros. -/
theorem test_read_reply : State.reset.readReply 4 = [0#8, 0#8, 0#8, 0#8] := by decide

/-! ### The client and memory ports -/

/-- The forty-granule map: INIT with fences 36 … 43 and 10 … 11 at span 40, then MERGE of first 0, length 32, invert
(chapter 1, steps 1 and 2). -/
def fortyMap : Gm := { Gm.initial with
  localFences := [some ⟨36, 8, false⟩, none, none, some ⟨10, 2, false⟩, none, none, none, none] }
theorem test_init : (fortyMap.init 40).census = ⟨34, 0, 0, 6⟩ := by decide +kernel
def fortyMerged : Gm := { fortyMap.init 40 with peerFences := some ⟨0, 32, true⟩ :: List.replicate 7 none }
theorem test_merge : (fortyMerged.merge 40).census = ⟨30, 0, 0, 10⟩ := by decide +kernel

/-- 2.4, S = 4: the fourth contested arbitration is OWN's. -/
theorem test_arbiter_four : (arbiterStep 0 4, arbiterStep 8 4, arbiterStep 12 4) = ((4, false), (12, false), (0, true)) := by
  decide

/-- 2.4, S = 6: arbitrations 3, 7 and 9 are OWN's; at S = 15 the second of a run is. -/
theorem test_arbiter_six : (arbiterStep 12 6, arbiterStep 14 6, arbiterStep 10 6, arbiterStep 15 15) =
    ((2, true), (4, true), (0, true), (14, true)) := by decide

/-- R23: a duplicate tag is dropped, its credit back at once, and PROTOCOL counted. -/
theorem test_arrival_duplicate : at1 (.clientRequestArrival (.read 3 0)) (queued State.reset [.read 3 5])
    (fun t => (t.cp.queue.length, t.cp.credits, t.mgp.counters.protocol, t.out)) =
      some (1, 31, 1, [.clientCredits 1]) := by decide +kernel

/-- Chapter 2, the cutover hold, step 6: the oldest parked request is granted first and its credit returned. -/
theorem test_grant_head : at1 .arbitration (queued (src .rinse) [.read 3 5, .read 4 6])
    (fun t => (t.cp.queue, t.cp.credits, t.out)) =
      some ([.read 4 6], 31, [.clientCredits 1, .memRequest 3 (.read 5)]) := by decide +kernel

/-- R26: on hold the client is not ready. -/
theorem test_grant_hold : at1 .arbitration (queued (src .cutover) [.read 3 5]) (fun t => t.cp.queue.length) = some 1 := by
  decide +kernel

/-- Chapter 3, the full TXQ in SHADOW under DEGRADE: the write is granted, the granule dirtied, SYNC_LOST, RINSE. -/
theorem test_shadow_degrade : at1 .arbitration
    { queued (done .shadow) [wr 3 0] with st := { (src .shadow).st with txq := marks 64 } }
    (fun t => (t.sc.state, t.gm.census, t.mgp.counters.degraded, t.latched .syncLost, t.st.pendingMarks)) =
      some (.rinse, ⟨0, 2, 1, 1⟩, 1, true, [⟨7#8, .syncLost⟩]) := by decide +kernel

/-- The same under STALL: the client is not ready. -/
theorem test_shadow_stall : ({ queued (done .shadow) [wr 3 0] with
    st := { (src .shadow).st with txq := marks 64 }
    sc := { (src .shadow).sc with params := { (src .shadow).sc.params with stall := true } } } : State).clientReady = false := by
  decide +kernel

/-- R33, R51: a failed write to a COPIED granule dirties it. -/
theorem test_response_fail : at1 (.memoryResponse (.done 3 true)) (recorded (src .rinse) ⟨3, .client, .write, 1#30⟩)
    (fun t => (t.gm.census, t.mgp.event.kind, t.out)) =
      some (⟨1, 0, 2, 1⟩, .writeFail, [.clientResponse 3 .doneFail]) := by decide +kernel

/-- R35: a DATA under a WRITE record is discarded with PROTOCOL counted and the record kept. -/
theorem test_response_kind : at1 (.memoryResponse (.data 3 zeros false)) (recorded (src .rinse) ⟨3, .client, .write, 1#30⟩)
    (fun t => (t.mgp.counters.protocol, t.mp.table.length, t.mp.credits, t.out)) = some (1, 1, 47, []) := by decide +kernel

/-! ### The sweep -/

/-- Chapter 4, the walk with wrap: after granule 32 level 2 is exhausted and the next position is 38; the last of extent 0 is 0. -/
theorem test_walk : (Cursor.step ⟨0, [2, 1], some 32, false⟩ [⟨30, [⟨2, 8⟩, ⟨3, 1⟩]⟩, ⟨70, []⟩] 40 = ⟨0, [1, 3], some 38, false⟩) ∧
    (Cursor.step ⟨0, [1, 2], some 39, false⟩ [⟨30, [⟨2, 8⟩, ⟨3, 1⟩]⟩, ⟨70, []⟩] 40 = ⟨0, [1, 1], some 0, false⟩) ∧
    (Cursor.step ⟨0, [1, 1], some 0, false⟩ [⟨30, [⟨2, 8⟩, ⟨3, 1⟩]⟩, ⟨70, []⟩] 40 = ⟨1, [], some 30, false⟩) ∧
    (Cursor.step ⟨1, [], some 30, false⟩ [⟨30, [⟨2, 8⟩, ⟨3, 1⟩]⟩, ⟨70, []⟩] 40).done = true := by decide +kernel

/-- Chapter 4, the colliding write, step 1: the visit of the DIRTY granule opens it under the open number 36. -/
theorem test_visit : at1 .visit { running (src .rinse) with
      se := { (running (src .rinse)).se with scanIdx := 1, openNo := 36 } }
    (fun t => (t.se.opened, t.se.openNo, t.se.scanIdx, t.st.txq)) =
      some (some ⟨1, 36#8, 0, 0, false, 0⟩, 37#8, 2, [.frame (.opening 1#24 36#8)]) := by decide +kernel

/-- Chapter 1, step 8: the stale close of an UNCOPIED granule leaves it DIRTY and N_c as it was. -/
theorem test_close_stale : at1 .granuleClose (opened (running (src .rinse)) ⟨2, 5#8, 1024, 1024, true, 0⟩)
    (fun t => (t.entry 2, t.gm.nc, t.gm.census, t.st.txq)) =
      some (some .dirty, 0, ⟨0, 1, 2, 1⟩, [.frame (.close 2#24 5#8)]) := by decide +kernel

/-- R67: no close before the 1,024 reservations. -/
theorem test_close_early : at1 .granuleClose (opened (running (src .rinse)) ⟨2, 5#8, 1023, 1000, false, 0⟩)
    (fun t => t.st.txq) = some [] := by decide +kernel

/-! ### Convergence -/

/-- Chapter 8, the limit cases: H at D = 0, at C = 0, and saturated. -/
theorem test_hold_limits : (predictedHold 0 9 200, predictedHold 5 0 200, predictedHold 1048576 1 200, predictedHold 40 6 200,
    predictedHold 1000 6 200) = (200, 16777215, 16777215, 7027, 170867) := by decide +kernel

/-- Chapter 8, the worked case: C = 20, R = 1, H = 1,788, eligible, converging, streak from 1 to 0. -/
theorem test_worked_case : ({ src .rinse with
      gm := { (src .rinse).gm with nc := 400, nd := 36, census := ⟨0, 0, 31, 0⟩ }
      se := { (src .rinse).se with passTimer := 20480 }
      cvu := { (src .rinse).cvu with heldC := 18, streak := 1 } } : State).takePassEnd.cvu.record =
    ⟨true, 0, 20480, 400, 36, 31, 20, false, 1, 1788, true, true, 0, .passEnd⟩ := by decide +kernel

/-- Chapter 8, pass 3 of the session: R equal to C, the third in a row: the streak returns to 0 and the share rises to 5. -/
def passThree : State := ({ src .rinse with
  gm := { (src .rinse).gm with nc := 6500, nd := 6900, census := ⟨0, 0, 7400, 0⟩ }
  se := { (src .rinse).se with passTimer := 1300000 }
  cvu := { (src .rinse).cvu with heldC := 5, streak := 2 } } : State).takePassEnd
theorem test_streak : (passThree.cvu.streak, passThree.cvu.share, passThree.latched .nonconvergent, passThree.cvu.record.h) =
    (0, 5, true, 1515720) := by decide +kernel

/-! ### Sends, timers and the link -/

/-- R86, R93: a MIRROR sent becomes the newest mirror sent and spends a credit. -/
theorem test_send_mirror : at1 .txqSend { src .rinse with
      st := { (src .rinse).st with txq := [.frame (.mirror 500#16 7168#32 1#64 zeros)] } }
    (fun t => (t.st.newestSent, t.st.sendCredits, t.st.txq, t.st.keepalive)) = some (some 500#16, 4, [], ⟨true, 0⟩) := by
  decide +kernel

/-- R84: a head that waits for its data is not sent. -/
theorem test_send_slot : at1 .txqSend { src .rinse with st := { (src .rinse).st with txq := [.slot 1#8 0#10 none] } }
    (fun t => (t.st.txq.length, t.out)) = some (1, []) := by decide +kernel

/-- Chapter 6, step 11: the keepalive's CREDIT carries the freed count and the last mirror granted. -/
theorem test_keepalive_credit : at1 (.keepaliveExpiry true) { tgt .filling with
      sr := { (tgt .filling).sr with freed := 1, lastGranted := 43 } }
    (fun t => (t.st.returnList, t.sr.freed)) = some ([.credit 1#8 43#16], 0) := by decide +kernel

/-- 7.13: TAKEN sent from SHADOW: IDLE, SYNCED. -/
theorem test_taken_sent : at1 .returnListSend { tgt .shadow with
      st := { (tgt .shadow).st with returnList := [.taken 7#8] }
      sc := { (tgt .shadow).sc with takeoverPending := true } }
    (fun t => (t.sc.state, t.sc.synced, t.sc.takeoverPending, t.out.length)) = some (.idle, true, false, 1) := by decide +kernel

/-- 7.3, step 3: the handshake expires: FAULT, HANDSHAKE_TIMEOUT, the TXQ flushed, FAULT raised without LINK_LOST. -/
theorem test_handshake_expiry : at1 .handshakeExpiry { src .handshake with st := { (src .handshake).st with txq := marks 1 } }
    (fun t => (t.sc.state, t.sc.faultReason, t.st.txq, t.latched .fault, t.latched .linkLost)) =
      some (.fault, some .handshakeTimeout, [], true, false) := by decide +kernel

/-- R106, R136: a silent TARGET enters FAULT with reason SILENT. -/
theorem test_silent_target : at1 .silentLimitExpiry (tgt .shadow) (fun t => (t.sc.state, t.sc.faultReason, t.sc.linkUp)) =
    some (.fault, some .silent, true) := by decide +kernel

/-- 9.6, run out of time: D is 0 at the expiry, so SE waits; one attempt of three leaves it armed. -/
theorem test_hold_expiry : at1 .holdTimerExpiry { done .cutover with cvu := { (done .cutover).cvu with armed := true, attempts := 1 } }
    (fun t => ((t.sc.state, t.se.waiting, t.cvu.armed), t.cp.hold, t.st.txq, t.latched .cutoverGiveup)) =
      some ((.rinse, true, true), false, [.frame (.mark 7#8 (.cutoverAbort 1#8))], false) := by decide +kernel

/-- R170: the third attempt gives up. -/
theorem test_hold_giveup : at1 .holdTimerExpiry { done .cutover with cvu := { (done .cutover).cvu with armed := true, attempts := 3 } }
    (fun t => (t.cvu.armed, t.latched .cutoverGiveup)) = some (false, true) := by decide +kernel

/-- R134: link-down in IDLE changes the link state alone. -/
theorem test_link_down_idle : at1 .linkDown (src .idle) (fun t => (t.sc.linkUp, t.sc.state, t.au.latch)) =
    some (false, .idle, 0) := by decide +kernel

/-- 10.7, step 5: link-down raises LINK_LOST and FAULT; with FAULT unmasked the line is high. -/
theorem test_link_down : at1 .linkDown { src .rinse with au := ⟨0, 0xDFF#12⟩ }
    (fun t => (t.sc.state, t.latched .linkLost, t.latched .fault, t.alertLine)) = some (.fault, true, true, true) := by
  decide +kernel

theorem test_link_up : at1 .linkUp State.reset (fun t => t.sc.linkUp) = some true := by decide +kernel

/-! ### Frames -/

/-- Chapter 5, step 2: CREDIT(n = 3, ack 502) removes 500 … 502. -/
theorem test_credit : at1 (.frameArrival (Frame.credit 3#8 502#16).bytes) { src .rinse with
      st := { (src .rinse).st with
        sendCredits := 26, mirrorSeq := 506
        mrl := [⟨500, 7⟩, ⟨501, 12⟩, ⟨502, 7⟩, ⟨503, 40⟩, ⟨504, 12⟩, ⟨505, 3⟩] } }
    (fun t => (t.st.sendCredits, t.st.mrl)) = some (29, [⟨503#16, 40⟩, ⟨504#16, 12⟩, ⟨505#16, 3⟩]) := by decide +kernel

/-- Chapter 9, step 14: READY(OK) with D at 0 ends the cutover. -/
theorem test_ready : at1 (.frameArrival (Frame.ready 7#8 true).bytes) { done .cutover with
      sc := { (done .cutover).sc with awaitingReady := true }, cvu := { (done .cutover).cvu with attempts := 1 } }
    (fun t => (t.sc.state, t.cp.hold, t.cvu.attempts, t.latched .cutoverDone, t.sc.holdTimer.running)) =
      some (.shadow, false, 0, true, false) := by decide +kernel

/-- R112, R119, R123: in FAULT a MIRROR drained after a gap clears the clean flag and sends no LOSS. -/
theorem test_loss_in_fault : at1 .arbitration { tgt .fault with
      sr := { (tgt .fault).sr with
        clean := true
        buffer := [.mirror 0#16 0 1#64 zeros, .mirror 5#16 0 1#64 zeros]
        expected := 1
        head := some ⟨[], some ⟨false, 0, 1#64, zeros, 0, some 0#16⟩⟩ } }
    (fun t => (t.sr.clean, t.sr.expected, t.st.returnList, t.mgp.counters.losses)) = some (false, 6#16, [], 0) := by
  decide +kernel

/-! ### The management line -/

/-- R182: STATUS is taken before its own result code is written. -/
theorem test_status : at1 (.status []) { State.reset with mgp := { State.reset.mgp with lastResult := .state } }
    (fun t => (t.mgp.reply.data.length, t.mgp.reply.data[54]?, t.mgp.lastResult)) = some (87, some 1#8, .ok) := by decide +kernel

/-- R179: two parameter bytes for SET_SHARE give PARAM. -/
theorem test_param_count : at1 (.setShare [1#8, 2#8]) State.reset (fun t => (t.mgp.reply.code, t.cvu.share)) =
    some (.param, 4) := by decide +kernel

/-- R156: a share of 0 is taken as 1, a share above 15 as 15. -/
theorem test_share : at1 (.setShare [0#8]) State.reset (fun t => (t.cvu.share, t.sc.params.share)) = some (1, 1) ∧
    at1 (.setShare [16#8]) State.reset (fun t => t.cvu.share) = some 15 := by decide +kernel

theorem test_arm : at1 (.arm []) State.reset (fun t => t.mgp.armLatch) = some true ∧
    at1 (.disarm []) (armed State.reset) (fun t => t.mgp.armLatch) = some false := by decide +kernel

/-- R181: span 2,048, AUTO, DEGRADE, D_max 64, H_limit 40 taken as 50, Q_allow 200, KI 100, SL 1 taken as 2, S 20 taken as 15. -/
theorem test_set_session : at1 (.setSession [1#8, 0#8, 8#8, 0#8, 0#8, 0#8, 0#8, 64#8, 0#8, 40#8, 0#8, 200#8, 0#8, 100#8, 1#8, 20#8])
    State.reset (fun t => (t.sc.role, t.sc.params)) =
      some (.source, ⟨2048, false, false, 64, 50, 200, 100, 2, 15⟩) := by decide +kernel

/-- R149: a part that ended a session as a SOURCE and becomes a TARGET is not armed and has made no attempt. -/
theorem test_set_session_target : at1 (.setSession [2#8, 0#8, 0#8, 4#8, 0#8, 0#8, 0#8, 64#8, 0#8, 50#8, 0#8, 200#8, 0#8, 100#8, 4#8, 9#8])
    { src .idle with cvu := { (src .idle).cvu with armed := true, attempts := 2, heldC := 7, streak := 1 } }
    (fun t => (t.sc.role, t.cvu)) = some (.target, { State.reset.cvu with share := 9 }) := by decide +kernel

/-- R159: the record of an ended session is hidden on a TARGET, and readable again once the part is no TARGET. -/
theorem test_read_pass_roles :
    let ended : State := { src .idle with cvu := { (src .idle).cvu with record := { PassRecord.cleared with valid := true, passNo := 9 } } }
    let as (role : Byte) (s : State) : State := match exec (.setSession ([role, 0#8, 0#8, 4#8] ++ List.replicate 12 0#8)) s with
      | .next t => t
      | _ => s
    at1 (.readPass []) (as 2 ended) (fun t => t.mgp.reply.data) = some (List.replicate 24 0#8) ∧
    at1 (.readPass []) (as 1 (as 2 ended)) (fun t => t.mgp.reply.data.take 4) = some [1#8, 0#8, 0#8, 9#8] := by decide +kernel

/-- R58: a count field of 0 means 4,096. -/
theorem test_load_extent : at1 (.loadExtent ([0#8, 0#8, 0#8, 30#8, 1#8, 0#8, 0#8, 0#8, 0#8, 8#8] ++ List.replicate 10 9#8)) State.reset
    (fun t => t.se.plan) = some [⟨30, [⟨4096, 8⟩]⟩] := by decide +kernel

theorem test_plan_clear : at1 (.planClear []) { State.reset with se := { State.reset.se with plan := [⟨1, []⟩] } }
    (fun t => t.se.plan) = some [] := by decide +kernel

/-- R12, R16: slot 3 takes first 10, length 2; with the mode STRAP a high strap refuses it with LOCKED. -/
theorem test_set_fence : at1 (.setFence true [3#8, 0#8, 0#8, 10#8, 0#8, 0#8, 2#8, 0#8]) (armed State.reset)
    (fun t => (t.gm.localFences[3]?, t.mgp.armLatch)) = some (some (some ⟨10, 2, false⟩), false) ∧
  at1 (.setFence true [3#8, 0#8, 0#8, 10#8, 0#8, 0#8, 2#8, 0#8])
    (armed { State.reset with gm := { State.reset.gm with lock := .strap } }) (fun t => t.mgp.reply.code) = some .locked := by
  decide +kernel

theorem test_lock : at1 (.lockFences [1#8]) (armed State.reset) (fun t => t.gm.lock) = some .strap ∧
    at1 (.lockFences [1#8]) (armed { State.reset with gm := { State.reset.gm with lock := .session } })
      (fun t => (t.gm.lock, t.mgp.reply.code)) = some (.session, .locked) := by decide +kernel

/-- 7.3, step 1: START takes session 6 to 7, appends HELLO and enters HANDSHAKE. -/
theorem test_start : at1 (.start []) (armed { src .idle with sc := { (src .idle).sc with session := 6 } })
    (fun t => (t.sc.state, t.sc.session, t.st.txq, t.st.sendCredits, t.mgp.armLatch)) =
      some (.handshake, 7#8, [.frame (.hello 7#8 4#24 0#16)], 32, false) := by decide +kernel

theorem test_listen : at1 (.listen []) (armed (tgt .idle)) (fun t => (t.sc.state, t.gm.map)) = some (.listen, none) := by
  decide +kernel

theorem test_pause : at1 (.pause []) (src .rinse) (fun t => t.se.paused) = some true ∧
    at1 (.pause []) (src .shadow) (fun t => t.mgp.reply.code) = some .state := by decide +kernel

/-- Chapter 8, the worked case paused: at the RESUME D = 36 gives H = 2,044, not eligible, and a rinse pass starts. -/
theorem test_resume : at1 (.resume []) { src .rinse with
      gm := { (src .rinse).gm with census := ⟨0, 0, 36, 0⟩ }
      se := { (src .rinse).se with paused := true, deferred := true }
      cvu := { (src .rinse).cvu with heldC := 20, armed := true } }
    (fun t => (t.sc.state, t.se.running, t.cvu.record.h, t.cvu.record.eligible, t.cvu.record.point)) =
      some (.rinse, true, 2044, false, .resume) := by decide +kernel

/-- R63: SKIP LEVEL at (2, 1) of extent 0 goes to (1, 3), SKIP EXTENT to extent 1. -/
theorem test_skip : at1 (.skipLevel [1#8]) { src .sweep with
      se := { (src .sweep).se with plan := [⟨0, [⟨2, 1⟩, ⟨3, 1⟩]⟩, ⟨2, []⟩], cursor := ⟨0, [2, 1], some 2, false⟩ } }
    (fun t => t.se.cursor) = some ⟨0, [1, 3], some 1, false⟩ ∧
  at1 (.skipExtent [2#8]) { src .sweep with
      se := { (src .sweep).se with plan := [⟨0, [⟨2, 1⟩, ⟨3, 1⟩]⟩, ⟨2, []⟩], cursor := ⟨0, [2, 1], some 2, false⟩ } }
    (fun t => t.se.cursor) = some ⟨1, [], some 2, false⟩ := by decide +kernel

/-- R163, R164: WAITING with D at 0 and Q_allow within H_limit, CUTOVER enters at once, attempt 1, with both marks appended. -/
theorem test_cutover : at1 (.cutover []) (armed { done .rinse with se := { (done .rinse).se with waiting := true } })
    (fun t => (t.sc.state, t.cp.hold, t.cvu.attempts, t.st.txq)) =
      some (.cutover, true, 1, [.frame (.mark 7#8 (.cutoverBegin 1#8)), .frame (.mark 7#8 .cutoverEnd)]) := by decide +kernel

/-- 7.13, the detach, step 1. -/
theorem test_detach : at1 (.detach []) (armed (done .shadow)) (fun t => (t.sc.state, t.sc.releasePending, t.st.txq)) =
    some (.shadow, true, [.frame (.mark 7#8 .release)]) := by decide +kernel
/-- R89, R140: a RELEASE that finds 8 marks pending is dropped, and the detach completes. -/
theorem test_detach_dropped : at1 (.detach []) (armed { done .shadow with st := { (done .shadow).st with
      txq := marks 64, pendingMarks := List.replicate 8 ⟨7#8, .syncLost⟩ } })
    (fun t => (t.sc.state, t.sc.releasePending, t.mgp.counters.discarded, t.mgp.event.detail)) =
      some (.idle, false, 1, .markKind 6) := by decide +kernel

/-- R143: from FILLING TAKEOVER needs FORCE, and sets UNSYNCED_TAKEOVER. -/
theorem test_takeover : at1 (.takeover [0#8]) (armed (tgt .filling)) (fun t => t.mgp.reply.code) = some .state ∧
    at1 (.takeover [1#8]) (armed (tgt .filling)) (fun t => (t.sc.takeoverPending, t.sc.unsynced, t.st.returnList)) =
      some (true, true, [.taken 7#8]) := by decide +kernel

/-- R138: a SOURCE in FAULT keeps its fault reason through the ABORT. -/
theorem test_abort : at1 (.abort []) { src .fault with sc := { (src .fault).sc with faultReason := some .silent } }
    (fun t => (t.sc.state, t.sc.faultReason, t.au.latch)) = some (.idle, some .silent, 0) := by decide +kernel

theorem test_read_cursor : at1 (.readCursor []) (src .sweep) (fun t => (t.mgp.reply.code, t.mgp.reply.data.length)) =
    some (.ok, 33) := by decide +kernel

/-- R82: a TARGET that was a SOURCE shows its plan length and the values after reset. -/
theorem test_read_cursor_target : at1 (.readCursor []) { tgt .shadow with
      se := { Se.initial with plan := [⟨1, []⟩], passNo := 3, passTimer := 9, cursor := ⟨1, [], none, true⟩ } }
    (fun t => t.mgp.reply.data) = some (1#8 :: List.replicate 32 0#8) := by decide +kernel

theorem test_read_pass : at1 (.readPass []) (src .sweep) (fun t => t.mgp.reply.data) = some (List.replicate 24 0#8) := by
  decide +kernel

/-- R19: DIRTY with OPEN and STALE set; OUTSIDE at the span; PARAM above 1,048,575. -/
theorem test_read_map : at1 (.readMap [0#8, 0#8, 1#8]) (opened (src .rinse) ⟨1, 5#8, 3, 3, true, 0⟩) (fun t => t.mgp.reply.data) =
    some [2#8, 3#8] ∧
  at1 (.readMap [0#8, 0#8, 4#8]) (src .rinse) (fun t => t.mgp.reply.data) = some [4#8, 0#8] ∧
  at1 (.readMap [0x10#8, 0#8, 0#8]) (src .rinse) (fun t => t.mgp.reply.code) = some .param := by decide +kernel

/-- R184: the reply shows UNREAD, which is then clear. -/
theorem test_read_event : at1 (.readEvent []) (State.reset.capture .need (some 5) .absent)
    (fun t => (t.mgp.reply.data, t.mgp.event.unread)) =
      some ([3#8, 5#8, 0#8, 0#8, 0#8, 5#8, 0#8, 0#8, 0#8, 0#8, 0#8, 0#8], false) := by decide +kernel

/-- 10.7, steps 2 to 4: PASS_END is flag 0, ELIGIBLE flag 1, FAULT flag 9. -/
theorem test_ack : at1 (.ackAlerts [0#8, 1#8]) { State.reset with au := ⟨0x003#12, 0xDFE#12⟩ }
    (fun t => (t.au.latch, t.alertLine)) = some (0x002#12, false) ∧
  at1 (.setMask [0x0D#8, 0xFC#8]) { State.reset with au := ⟨0x002#12, 0xDFE#12⟩ } (fun t => t.alertLine) = some true := by
  decide +kernel

theorem test_clear_counters : at1 (.clearCounters []) (State.reset.count .needs) (fun t => t.mgp.counters) = some Counters.zero := by
  decide +kernel

/-- R189: RESET needs RESET_ENABLE just before it. -/
theorem test_reset : at1 (.reset []) (src .rinse) (fun t => (t.mgp.reply.code, t.sc.state)) = some (.state, .rinse) ∧
    at1 (.reset []) { src .rinse with mgp := { (src .rinse).mgp with resetEnable := true } }
      (fun t => ((t.sc.state, t.sc.role, t.sc.session), t.gm.map, t.mgp.cause)) =
        some ((.idle, .source, 7#8), none, .command) ∧
    at1 (.resetEnable []) State.reset (fun t => t.mgp.resetEnable) = some true := by decide +kernel

theorem test_unknown : at1 (.unknown 0x38#8 [1#8]) (armed State.reset) (fun t => (t.mgp.reply.code, t.mgp.armLatch)) =
    some (.unknown, true) := by decide +kernel

/-- R191, R20: a LINE reset keeps the local fences; its release issues the credits and samples the straps. -/
theorem test_line_reset : at1 .lineReset (tgt .shadow) (fun t => (t.phase, t.sc.state, t.gm.localFences.head?, t.cp.credits)) =
    some (.inLine, .idle, some (some ⟨3, 1, false⟩), 0) ∧
  at1 (.lineResetRelease 2#3) (State.reset.lineReset) (fun t => (t.phase, t.cp.credits, t.mgp.straps, t.mgp.cause)) =
    some (.running, 32, 2#3, .line) := by decide +kernel

theorem test_power_on : at1 .powerOn (tgt .shadow) (fun t => (t.phase, t.gm.localFences, t.mgp.cause)) =
    some (.inPowerOn, emptyFences, .powerOn) ∧
  at1 (.powerOnRelease 1#3) (State.reset.powerOnReset) (fun t => (t.phase, t.out, t.mgp.straps)) =
    some (.running, [.clientCredits 32], 1#3) := by decide +kernel

/-- Log 2: an idle step is one µs. -/
theorem test_tick : (match step (src .handshake) with | .next t => t.sc.handshake.count | _ => 0) = 6 := by decide +kernel

/-- The queue: the front command is run and the rest kept. -/
theorem test_queue : (match step { State.reset with pending := [.linkUp, .linkDown] } with
    | .next t => (t.sc.linkUp, t.pending)
    | _ => (false, [])) = (true, [.linkDown]) := by decide +kernel

/-! ### Witnesses: a state and operands that meet the hypotheses of each statement, clause by clause, at the bounds -/

/-- The witnesses' own shorthands. -/
def full31 : List ClientRequest := (List.range 31).map fun n => .read (Fin.ofNat 64 n) 0
def ownAt (t g : Nat) (k : RequestKind) : MemRecord := ⟨t, .apply g true, k, 0⟩
def withTxq (s : State) (q : List TxEntry) : State := { s with st := { s.st with txq := q } }
def withMrl (s : State) (n : Nat) : State := { s with st := { s.st with
  mirrorSeq := BitVec.ofNat 16 n, mrl := (List.range n).map fun i => ⟨BitVec.ofNat 16 i, i % 4⟩ } }
def rec1 (g n : Nat) (stale : Bool) : OpenRecord := ⟨g, 5#8, n, n, stale, 0⟩

theorem witness_IdleStep : State.reset.pending = [] ∧ State.reset.phase = .running ∧
    State.reset.lineReset.pending = [] ∧ State.reset.lineReset.phase ≠ .running := by decide +kernel

theorem witness_ClientArrival_room : ∃ (r : ClientRequest) (s : State), s.phase = .running ∧ s.cp.queue.length = 31 ∧
    r.tagNo ∉ s.tagsInUse ∧ (s.setCp { s.cp with queue := s.cp.queue ++ [r] }).headRefused = false :=
  ⟨.read 63 5, queued State.reset full31, by decide +kernel⟩
theorem witness_ClientArrival_full : ∃ s : State, s.phase = .running ∧ 32 ≤ s.cp.queue.length :=
  ⟨queued State.reset (full31 ++ [.read 40 0]), by decide +kernel⟩
theorem witness_ClientArrival_duplicate : ∃ (r : ClientRequest) (s : State), s.phase = .running ∧ s.cp.queue.length = 31 ∧
    s.cp.credits = 1 ∧ r.tagNo ∈ s.tagsInUse := ⟨.read 30 5, queued State.reset full31, by decide +kernel⟩

theorem witness_UncoveredWriteRefused : ∃ (tag : Fin 64) (a : LineAddr) (s : State), s.phase = .running ∧ s.fencing = true ∧
    s.cp.queue = [] ∧ 1 ≤ s.cp.credits ∧ tag.val ∉ s.tagsInUse ∧ s.localCovers (a.toNat / 1024) = false :=
  ⟨63, 3071#30, tgt .shadow, by decide +kernel⟩
theorem witness_UncoveredWriteRefused_grant : ∃ (r q : ClientRequest) (s : State), s.phase = .running ∧ s.fencing = true ∧
    0 < s.mp.credits ∧ s.cp.queue = [r, wr 3 2, q] ∧ s.localCovers 2 = false ∧ s.cp.hold = false ∧ s.ownReady = none ∧
    (s.setCp { s.cp with queue := [q] }).headRefused = false :=
  ⟨wr 5 3, wr 4 3, queued (tgt .filling) [wr 5 3, wr 3 2, wr 4 3], by decide +kernel⟩
theorem witness_UncoveredWriteRefused_listen : ∃ (q : ClientRequest) (s : State), s.phase = .running ∧ s.mgp.armLatch = true ∧
    s.sc.role = .target ∧ s.sc.state = .idle ∧ s.sc.params.span ≠ 0 ∧ s.cp.queue = [wr 3 4, q] ∧ s.localCovers 4 = false ∧
    ((s.setCp { s.cp with queue := [q] }).setSc { s.sc with state := .listen }).headRefused = false :=
  ⟨wr 4 3, armed (queued (tgt .idle) [wr 3 4, wr 4 3]), by decide +kernel⟩

theorem witness_ClientGrant : ∃ (r : ClientRequest) (rest : List ClientRequest) (s : State), s.phase = .running ∧
    0 < s.mp.credits ∧ s.cp.queue = r :: rest ∧ s.cp.hold = false ∧ s.shadowStall = false ∧ s.ownReady = none ∧
    (r.kind = .read ∨ s.captureActs = false) ∧ (s.setCp { s.cp with queue := rest }).headRefused = false :=
  ⟨.read 3 5, [wr 4 3], queued (tgt .shadow) [.read 3 5, wr 4 3], by decide +kernel⟩
theorem witness_ClientGrant_held : ∀ own : Bool, ∃ s : State, s.phase = .running ∧ s.cp.hold = true ∧ s.cp.queue ≠ [] ∧
    s.ownReady.isSome = own :=
  fun own => ⟨queued (if own then opened (src .cutover) (rec1 1 7 false) else src .cutover) [wr 3 0], by revert own; decide +kernel⟩
theorem witness_ClientGrant_stalled : ∃ s : State, s.phase = .running ∧ s.shadowStall = true ∧ s.ownReady = none ∧
    s.st.mrl.length = 128 :=
  ⟨{ queued (withMrl (done .shadow) 128) [wr 3 0] with
    sc := { (done .shadow).sc with params := { (done .shadow).sc.params with stall := true } } }, by decide +kernel⟩

/-- The client write of tag 3 to granule g at the head of a SOURCE in RINSE that captures. -/
def writing (s : State) (g : Nat) : State := queued s [wr 3 g]
def capturing (s : State) (g : Nat) : Prop := s.phase = .running ∧ 0 < s.mp.credits ∧
  s.cp.queue = [wr 3 g] ∧ s.cp.hold = false ∧ s.shadowStall = false ∧ s.ownReady = none ∧ s.captureActs = true

theorem witness_CapturedWriteGrant_passed : ∀ g ∈ [1, 2, 3, 4], ∃ s, capturing s g ∧
    (s.entry g = none ∨ s.entry g = some .excluded ∨ (s.entry g ≠ some .copied ∧ s.isOpen g = false)) :=
  fun g hg => ⟨writing (src .rinse) g, by revert g; unfold capturing; decide +kernel⟩
theorem witness_CapturedWriteGrant_mirrored : ∀ n ∈ [62, 63], ∃ s, capturing s 0 ∧ s.entry 0 = some .copied ∧
    s.st.txq.length = n ∧ s.st.mrl.length = 127 :=
  fun n hn => ⟨writing (withTxq (withMrl (src .rinse) 127) (marks n)) 0, by revert n; unfold capturing; decide +kernel⟩
theorem witness_CapturedWriteGrant_open : ∃ s, capturing s 1 ∧ s.isOpen 1 = true ∧ s.entry 1 = some .dirty ∧
    s.st.txq.length < 64 ∧ s.st.mrl.length < 128 :=
  ⟨writing (opened (src .rinse) (rec1 1 1024 false)) 1, by unfold capturing; decide +kernel⟩
theorem witness_CapturedWriteGrant_degraded : ∃ s, capturing s 0 ∧ s.sc.state ≠ .shadow ∧ s.st.txq.length = 64 ∧
    s.isOpen 0 = false ∧ s.entry 0 = some .copied ∧ 0 < s.d :=
  ⟨writing (withTxq (src .rinse) (marks 64)) 0, by unfold capturing; decide +kernel⟩
theorem witness_CapturedWriteGrant_degraded_open : ∃ s, capturing s 2 ∧ s.sc.state ≠ .shadow ∧ s.st.mrl.length = 128 ∧
    s.isOpen 2 = true ∧ s.entry 2 = some .uncopied :=
  ⟨writing (opened (withMrl (src .rinse) 128) (rec1 2 1024 false)) 2, by unfold capturing; decide +kernel⟩
theorem witness_CapturedWriteGrant_wakes : ∀ p : Bool, ∃ s, capturing s 0 ∧ s.sc.state ≠ .shadow ∧ s.st.txq.length = 64 ∧
    s.isOpen 0 = false ∧ s.entry 0 = some .copied ∧ s.d = 0 ∧ s.se.waiting = true ∧ s.se.paused = p :=
  fun p => ⟨writing { withTxq (done .rinse) (marks 64) with se := { Se.initial with waiting := true, paused := p } } 0,
    by revert p; unfold capturing; decide +kernel⟩
theorem witness_CapturedWriteGrant_shadow : ∃ s, capturing s 0 ∧ s.sc.state = .shadow ∧ s.isOpen 0 = false ∧
    s.entry 0 = some .copied ∧ s.st.mrl.length = 128 ∧ s.st.txq.length = 61 ∧ s.st.pendingMarks = [] :=
  ⟨writing (withTxq (withMrl (done .shadow) 128) (marks 61)) 0, by unfold capturing; decide +kernel⟩
theorem witness_CapturedWriteGrant_shadow_full : ∃ s, capturing s 0 ∧ s.sc.state = .shadow ∧ s.isOpen 0 = false ∧
    s.entry 0 = some .copied ∧ s.st.txq.length = 64 ∧ s.st.pendingMarks.length = 7 :=
  ⟨writing { done .shadow with st := { (done .shadow).st with
    txq := marks 64, pendingMarks := List.replicate 7 ⟨7#8, .syncLost⟩ } } 0, by unfold capturing; decide +kernel⟩
theorem witness_CapturedWriteGrant_shadow_dropped : ∃ s, capturing s 0 ∧ s.sc.state = .shadow ∧ s.isOpen 0 = false ∧
    s.entry 0 = some .copied ∧ s.st.txq.length = 64 ∧ s.st.pendingMarks.length = 8 :=
  ⟨writing { done .shadow with st := { (done .shadow).st with
    txq := marks 64, pendingMarks := List.replicate 8 ⟨7#8, .syncLost⟩ } } 0, by unfold capturing; decide +kernel⟩

theorem witness_SweepReadGrant : ∃ (r : OpenRecord) (t : Nat) (s : State), s.phase = .running ∧ 0 < s.mp.credits ∧
    s.sweeping = true ∧ s.se.paused = false ∧ s.se.opened = some r ∧ r.nextLine = 1022 ∧ s.st.txq.length = 47 ∧
    s.freeOwnTag = some t ∧ s.cp.queue ≠ [] ∧ s.cp.hold = true :=
  ⟨rec1 1 1022 false, 65, queued (recorded (opened (withTxq (src .cutover) (marks 47)) (rec1 1 1022 false))
    (ownAt 64 0 .write)) [.read 3 5], by decide +kernel⟩
/-- A SOURCE whose open record asks for line 1,023, with n entries in the TXQ. -/
def lastLine (x : SessionState) (n : Nat) : State := opened (withTxq (running (src x)) (marks n)) (rec1 1 1023 false)
theorem witness_SweepReadGrant_close : ∀ x ∈ [SessionState.sweep, .rinse], ∀ n ∈ [46, 47], (lastLine x n).phase = .running ∧
    0 < (lastLine x n).mp.credits ∧ (lastLine x n).sweeping = true ∧ (lastLine x n).se.paused = false ∧
    (lastLine x n).se.opened = some (rec1 1 1023 false) ∧ (lastLine x n).st.txq.length = n ∧
    (lastLine x n).freeOwnTag = some 64 ∧ (lastLine x n).cp.queue = [] ∧ (lastLine x n).entry 1 = some .dirty ∧
    ((lastLine x n).sc.state = .sweep ∧ (lastLine x n).se.cursor.done = false ∨
      (lastLine x n).sc.state = .rinse ∧ (lastLine x n).se.scanIdx < (lastLine x n).sc.params.span) := by decide +kernel
/-- A session at the last close of pass 0, of a rinse pass or of a round of the final scan, whose close leaves D at 1 or at 0. -/
def ending (s : State) (z : Bool) : State := { s with
  gm := if z then { s.gm with map := some [.copied, .dirty, .copied, .excluded], census := ⟨0, 2, 1, 1⟩ } else s.gm
  se := { s.se with scanIdx := 4, cursor := ⟨0, [], none, true⟩ } }
theorem witness_SweepReadGrant_ends : ∀ x ∈ [SessionState.sweep, .rinse, .cutover], ∀ z : Bool, ∃ s : State,
    s = ending (lastLine x 46) z ∧ s.phase = .running ∧ 0 < s.mp.credits ∧ s.sweeping = true ∧ s.se.paused = false ∧
    s.se.opened = some (rec1 1 1023 false) ∧ s.st.txq.length = 46 ∧ s.freeOwnTag = some 64 ∧ s.cp.queue = [] ∧
    s.entry 1 = some .dirty ∧ s.sc.state = x ∧ s.se.cursor.done = true ∧ s.sc.params.span ≤ s.se.scanIdx ∧
    s.se.running = true ∧ s.st.pendingMarks = [] ∧ s.d = (if z then 1 else 2) :=
  fun x _ z => ⟨ending (lastLine x 46) z, rfl, by revert x z; decide +kernel⟩

/-- A TARGET with a MIRROR on offer to the memory port behind n apply writes, its freed count at 6 or as given. -/
def applying (n : Nat) (freed : Nat := 6) : State := { tgt .filling with
  mp := { State.reset.mp with credits := 48 - n, table := (List.range n).map fun i => ownAt (64 + i) 0 .write }
  sr := { (tgt .filling).sr with
    freed := freed
    buffer := [.mirror 9#16 0 1#64 zeros]
    head := some ⟨[], some ⟨false, 0, 1#64, zeros, 0, some 9#16⟩⟩ } }
theorem witness_ApplyWriteGrant : ∃ (f : Frame) (w : ApplyWrite) (s : State), s.phase = .running ∧ 0 < s.mp.credits ∧
    s.receiving = true ∧ s.sr.buffer = [f] ∧ s.sr.head = some ⟨[], some w⟩ ∧ s.appliesOut + s.sr.failedApply.length = 15 ∧
    s.sr.failedApply = [] ∧ s.sc.takenWaiting = false ∧ s.sr.creditDue = false ∧ s.sr.freed = 6 ∧
    s.freeOwnTag = some 79 ∧ s.cp.queue = [] :=
  ⟨.mirror 9#16 0 1#64 zeros, ⟨false, 0, 1#64, zeros, 0, some 9#16⟩, applying 15, by decide +kernel⟩
theorem witness_ApplyWriteGrant_credit : ∀ n ∈ [15, 16], ∃ s : State, s.phase = .running ∧ 0 < s.mp.credits ∧
    s.receiving = true ∧ s.sr.buffer.length = 1 ∧ s.sr.head = some ⟨[], some ⟨false, 0, 1#64, zeros, 0, some 9#16⟩⟩ ∧
    s.appliesOut + s.sr.failedApply.length < 16 ∧ s.sr.failedApply = [] ∧ s.sc.takenWaiting = false ∧
    s.sr.creditDue = false ∧ s.sr.freed = 7 ∧ s.freeOwnTag = some 64 ∧ s.cp.queue = [] ∧ s.st.returnList.length = n :=
  fun n _ => ⟨{ applying 0 7 with st := { (tgt .filling).st with returnList := List.replicate n (.need 5) } },
    by revert n; decide +kernel⟩

theorem witness_ShareArbiterChooses : ∀ n ∈ [0, 1], ∃ s : State, s.phase = .running ∧ s.cp.queue = [.read 3 5] ∧
    s.clientReady = true ∧ s.ownReady = some (64, .sweep 1 5#8 0) ∧ s.mp.credits = n :=
  fun n _ => ⟨{ queued (opened (src .rinse) (rec1 1 0 false)) [.read 3 5] with mp := ⟨n, [], 12⟩ }, by revert n; decide +kernel⟩

theorem witness_ClientResponseDelivered : ∃ (q : MemResponse) (s : State), s.phase = .running ∧
    s.recordOf q.tagNo = some ⟨q.tagNo, .client, .write, 1⟩ ∧ q.matches .write = true ∧ s.failureActs = false :=
  ⟨.done 63 true, recorded (tgt .shadow) ⟨63, .client, .write, 1⟩, by decide +kernel⟩

/-- A client write to granule g that is out at the memory side. -/
def failing (s : State) (g : Nat) : State := recorded s ⟨3, .client, .write, BitVec.ofNat 30 (g * 1024)⟩
def failingHolds (s : State) (g : Nat) : Prop := s.phase = .running ∧
  s.recordOf 3 = some ⟨3, .client, .write, BitVec.ofNat 30 (g * 1024)⟩ ∧ s.failureActs = true
theorem witness_FailedClientWrite_copied : ∃ s, failingHolds s 0 ∧ s.entry 0 = some .copied ∧ s.isOpen 0 = false ∧
    s.sc.state ≠ .shadow ∧ s.d ≠ 0 := ⟨failing (src .cutover) 0, by unfold failingHolds; decide +kernel⟩
theorem witness_FailedClientWrite_wakes : ∀ p : Bool, ∃ s, failingHolds s 0 ∧ s.entry 0 = some .copied ∧ s.isOpen 0 = false ∧
    s.sc.state = .rinse ∧ s.d = 0 ∧ s.se.waiting = true ∧ s.se.paused = p :=
  fun p => ⟨failing { done .rinse with se := { Se.initial with waiting := true, paused := p } } 0,
    by revert p; unfold failingHolds; decide +kernel⟩
theorem witness_FailedClientWrite_shadow : ∃ s, failingHolds s 2 ∧ s.entry 2 = some .copied ∧ s.isOpen 2 = false ∧
    s.sc.state = .shadow ∧ s.st.txq.length = 61 ∧ s.st.pendingMarks = [] :=
  ⟨failing (withTxq (done .shadow) (marks 61)) 2, by unfold failingHolds; decide +kernel⟩
theorem witness_FailedClientWrite_open : ∃ s, failingHolds s 1 ∧ s.entry 1 ≠ none ∧ s.entry 1 ≠ some .excluded ∧
    s.isOpen 1 = true := ⟨failing (opened (src .rinse) (rec1 1 0 false)) 1, by unfold failingHolds; decide +kernel⟩
theorem witness_FailedClientWrite_left : ∀ g ∈ [1, 2, 3, 4], ∃ s, failingHolds s g ∧ (s.entry g = none ∨
    s.entry g = some .excluded ∨ (s.entry g ≠ some .copied ∧ s.isOpen g = false)) :=
  fun g _ => ⟨failing (src .handshake) g, by revert g; unfold failingHolds; decide +kernel⟩

theorem witness_OwnResponseTaken_sweep : ∃ (pre post : List TxEntry) (r : OpenRecord) (s : State), s.phase = .running ∧
    s.recordOf 64 = some ⟨64, .sweep (some (5#8, 7#10)), .read, 1031#30⟩ ∧
    s.st.txq = pre ++ .slot 5#8 7#10 none :: post ∧ TxEntry.slot 5#8 7#10 none ∉ pre ∧ s.se.opened = some r ∧
    r.openNo = 5#8 ∧ r.granule = 1031 / 1024 :=
  ⟨marks 1, marks 1, rec1 1 8 false, recorded (opened (withTxq (src .rinse) (marks 1 ++ .slot 5#8 7#10 none :: marks 1))
    (rec1 1 8 false)) ⟨64, .sweep (some (5#8, 7#10)), .read, 1031#30⟩, by decide +kernel⟩
theorem witness_OwnResponseTaken_late : ∀ o ∈ [none, some (rec1 2 8 false), some ⟨1, 6#8, 8, 8, false, 0⟩], ∃ s : State,
    s.phase = .running ∧ s.recordOf 64 = some ⟨64, .sweep (some (5#8, 7#10)), .read, 1031#30⟩ ∧
    s.st.txq = marks 1 ++ .slot 5#8 7#10 none :: marks 1 ∧ TxEntry.slot 5#8 7#10 none ∉ marks 1 ∧ s.se.opened = o ∧
    (o.all fun r => r.openNo != 5#8 || r.granule != 1031 / 1024) = true :=
  fun o _ => ⟨recorded { withTxq (src .rinse) (marks 1 ++ .slot 5#8 7#10 none :: marks 1) with
    se := { (src .rinse).se with opened := o } } ⟨64, .sweep (some (5#8, 7#10)), .read, 1031#30⟩, by revert o; decide +kernel⟩
theorem witness_OwnResponseTaken_apply : ∃ s : State, s.phase = .running ∧ s.receiving = true ∧
    s.recordOf 79 = some ⟨79, .apply 2 true, .writePoison, 0⟩ ∧ s.st.returnList.length = 15 ∧ s.sr.failedApply = [] ∧
    s.sc.takenWaiting = false ∧ s.sr.creditDue = false ∧ s.sr.buffer = [] ∧ s.sr.head = none :=
  ⟨{ recorded (tgt .shadow) (ownAt 79 2 .writePoison) with
      st := { (tgt .shadow).st with returnList := List.replicate 15 (.need 0) } }, by decide +kernel⟩
theorem witness_OwnResponseTaken_dropped : ∃ s u v : State, s.phase = .running ∧
    s.recordOf 64 = some ⟨64, .sweep none, .read, 0⟩ ∧ u.phase = .running ∧
    u.recordOf 64 = some ⟨64, .apply 2 false, .write, 0⟩ ∧ v.phase = .running ∧ v.targetIn .fault = true ∧
    v.recordOf 79 = some ⟨79, .apply 2 true, .writePoison, 0⟩ :=
  ⟨recorded (src .shadow) ⟨64, .sweep none, .read, 0⟩, recorded (tgt .filling) ⟨64, .apply 2 false, .write, 0⟩,
    recorded (tgt .fault) (ownAt 79 2 .writePoison), by decide +kernel⟩

theorem witness_UnmatchedResponse : (src .rinse).recordOf 80 = none ∧ (src .rinse).phase = .running ∧
    ∃ (q : MemResponse) (s : State), s.phase = .running ∧ ∃ r, s.recordOf q.tagNo = some r ∧ q.matches r.kind = false :=
  ⟨by decide +kernel, by decide +kernel, .done 3 false, recorded State.reset ⟨3, .client, .read, 0⟩, by decide +kernel,
    ⟨3, .client, .read, 0⟩, by decide +kernel⟩

/-- Where a visit finds SE ready: a pass that runs, nothing open, not PAUSED, 47 entries in the TXQ. -/
def visiting (s : State) : Prop := s.phase = .running ∧ s.sweeping = true ∧ s.se.running = true ∧ s.se.opened = none ∧
  s.se.paused = false ∧ s.st.txq.length = 47
def scan (x : SessionState) (i : Nat) : State :=
  { withTxq (running (src x)) (marks 47) with se := { (src x).se with running := true, scanIdx := i } }
def walk (g : Nat) : State := { scan .sweep 0 with
  se := { (scan .sweep 0).se with plan := [⟨g, [⟨2, 1⟩]⟩], cursor := ⟨0, [2], some g, false⟩ } }
theorem witness_VisitOpensOrSkips_rinse : ∀ g ∈ [0, 1, 2], ∃ s, visiting s ∧ s.sc.state ≠ .sweep ∧
    s.se.scanIdx < s.sc.params.span ∧ s.se.scanIdx = g ∧ (s.entry g = some .uncopied ∨ s.entry g = some .dirty ∨
      s.entry g = some .copied ∧ s.se.scanIdx + 1 < s.sc.params.span) :=
  fun g _ => ⟨scan .rinse g, by revert g; unfold visiting; decide +kernel⟩
theorem witness_VisitOpensOrSkips_cutover : ∃ s, visiting s ∧ s.sc.state = .cutover ∧ s.se.scanIdx = 0 ∧
    s.entry 0 = some .copied ∧ s.se.scanIdx + 1 < s.sc.params.span ∧ 0 < s.d :=
  ⟨scan .cutover 0, by unfold visiting; decide +kernel⟩
theorem witness_VisitOpensOrSkips_ends : ∀ g ∈ [0, 3], ∃ s, visiting s ∧ s.sc.state = .sweep ∧ s.se.cursor.done = false ∧
    s.se.cursor.next = some g ∧ (s.entry g = some .copied ∨ s.entry g = some .excluded) ∧ s.st.pendingMarks = [] ∧
    (s.se.cursor.step s.se.plan s.sc.params.span).done = true :=
  fun g _ => ⟨{ walk g with se := { (walk g).se with cursor := ⟨0, [1], some g, false⟩ } },
    by revert g; unfold visiting; decide +kernel⟩
theorem witness_VisitOpensOrSkips_rounds : ∀ z : Bool, ∃ s, visiting s ∧ s.sc.state = .cutover ∧ s.se.scanIdx = 3 ∧
    s.se.scanIdx < s.sc.params.span ∧ s.entry 3 = some .excluded ∧ s.st.pendingMarks = [] ∧
    s.sc.params.span = s.se.scanIdx + 1 ∧ s.d = (if z then 0 else 2) :=
  fun z => ⟨{ scan .cutover 3 with gm := if z then (done .cutover).gm else (src .cutover).gm },
    by revert z; unfold visiting; decide +kernel⟩
theorem witness_VisitOpensOrSkips_sweep : ∀ g ∈ [0, 1, 2, 3], ∃ s, visiting s ∧ s.sc.state = .sweep ∧
    s.se.cursor.done = false ∧ s.se.cursor.next = some g ∧ (s.entry g = some .uncopied ∨ s.entry g = some .dirty ∨
      (s.entry g = some .copied ∨ s.entry g = some .excluded) ∧ (s.se.cursor.step s.se.plan s.sc.params.span).done = false) :=
  fun g _ => ⟨walk g, by revert g; unfold visiting; decide +kernel⟩
/-- A plan of two extents, and a cursor at given remaining counts of the first. -/
def twoExtents : List Extent := [⟨30, [⟨4096, 8⟩, ⟨3, 1⟩]⟩, ⟨70, []⟩]
theorem witness_VisitOpensOrSkips_cursor : ∀ left ∈ [[2, 1], [4096, 3], [1, 1]], ∃ (c : Cursor) (e f : Extent),
    twoExtents[c.extent]? = some e ∧ c.remaining = left ∧ c.remaining.length = e.levels.length ∧
    twoExtents[c.extent + 1]? = some f ∧ (left = [2, 1] → c.remaining = [] ++ 2 :: List.replicate 1 1) ∧
    (left = [4096, 3] → c.remaining = [4096] ++ 3 :: List.replicate 0 1) ∧ (left = [1, 1] → ∀ r ∈ c.remaining, r ≤ 1) :=
  fun left _ => ⟨⟨0, left, some 30, false⟩, ⟨30, [⟨4096, 8⟩, ⟨3, 1⟩]⟩, ⟨70, []⟩, by revert left; decide +kernel⟩
theorem witness_VisitOpensOrSkips_last : ∃ (c : Cursor) (e : Extent), twoExtents[c.extent]? = some e ∧
    c.remaining.length = e.levels.length ∧ (∀ r ∈ c.remaining, r ≤ 1) ∧ twoExtents.length ≤ c.extent + 1 :=
  ⟨⟨1, [], some 70, false⟩, ⟨70, []⟩, by decide +kernel⟩

/-- A granule with its 1,024 reservations made and 47 entries in the TXQ. -/
def closing (x : SessionState) (g : Nat) (stale : Bool) : State := opened (scan x 2) (rec1 g 1024 stale)
theorem witness_CloseMovesEntry : ∀ x ∈ [SessionState.sweep, .rinse], ∀ g ∈ [1, 2], ∀ b : Bool, ∃ (r : OpenRecord) (s : State),
    s.phase = .running ∧ s.sweeping = true ∧ s.se.opened = some r ∧ 1024 ≤ r.nextLine ∧ s.st.txq.length = 47 ∧
    (s.sc.state = .sweep ∧ s.se.cursor.done = false ∨ s.sc.state = .rinse ∧ s.se.scanIdx < s.sc.params.span) ∧
    r.granule = g ∧ r.stale = b ∧ s.entry g = (if g = 1 then some .dirty else some .uncopied) :=
  fun x _ g _ b => ⟨rec1 g 1024 b, closing x g b, by revert x g b; decide +kernel⟩
theorem witness_CloseMovesEntry_cutover : ∀ z : Bool, ∃ (r : OpenRecord) (s : State), s.phase = .running ∧ s.sweeping = true ∧
    s.se.opened = some r ∧ 1024 ≤ r.nextLine ∧ s.st.txq.length = 47 ∧ s.entry r.granule = some .dirty ∧ r.stale = false ∧
    s.sc.state = .cutover ∧ s.se.running = true ∧ s.st.pendingMarks = [] ∧ s.d = (if z then 1 else 2) ∧
    s.sc.params.span ≤ s.se.scanIdx :=
  fun z => ⟨rec1 1 1024 false, { opened (scan .cutover 4) (rec1 1 1024 false) with
    gm := if z then { (src .rinse).gm with map := some [.copied, .dirty, .copied, .excluded], census := ⟨0, 2, 1, 1⟩ }
      else (src .rinse).gm }, by revert z; decide +kernel⟩
/-- The last close of pass 0 or of a rinse pass. -/
def lastClose (x : SessionState) (paused arm : Bool) : State := { closing x 1 false with
  se := { (closing x 1 false).se with paused := paused, scanIdx := 4, cursor := ⟨0, [], none, true⟩ }
  cvu := { (src x).cvu with armed := arm, heldC := 20 } }
theorem witness_CloseMovesEntry_pass : ∀ x ∈ [SessionState.sweep, .rinse], ∀ p a : Bool, ∃ r : OpenRecord,
    (lastClose x p a).phase = .running ∧ (lastClose x p a).sweeping = true ∧ (lastClose x p a).se.opened = some r ∧
    1024 ≤ r.nextLine ∧ (lastClose x p a).st.txq.length = 47 ∧ (lastClose x p a).entry r.granule = some .dirty ∧
    ((lastClose x p a).sc.state = .sweep ∧ (lastClose x p a).se.cursor.done = true ∨
      (lastClose x p a).sc.state = .rinse ∧ (lastClose x p a).sc.params.span ≤ (lastClose x p a).se.scanIdx) ∧
    (lastClose x p a).se.running = true ∧ (lastClose x p a).st.pendingMarks = [] ∧ (lastClose x p a).se.paused = p ∧
    (lastClose x p a).cvu.armed = a :=
  fun x _ p a => ⟨rec1 1 1024 false, by revert x p a; decide +kernel⟩

theorem witness_PassEndDecides : ∀ a : Bool, ∀ z : Bool, ∃ s : State, s.phase = .running ∧ s.sourceIn .rinse = true ∧
    s.sc.releasePending = false ∧ s.se.running = true ∧ s.se.opened = none ∧ s.se.paused = false ∧ s.st.txq.length = 47 ∧
    s.st.pendingMarks = [] ∧ s.sc.params.span = 4 ∧ s.se.scanIdx = 3 ∧ s.entry 3 = some .excluded ∧
    s.cvu.armed = a ∧ s.d = (if z then 0 else 2) :=
  fun a z => ⟨{ scan .rinse 3 with
    gm := if z then (done .rinse).gm else (src .rinse).gm
    cvu := { (src .rinse).cvu with armed := a, heldC := 20 } }, by revert a z; decide +kernel⟩

theorem witness_TxqSend : ∀ n ∈ [0, 62, 63], ∃ (e : TxEntry) (f : Frame) (rest : List TxEntry) (s : State),
    s.phase = .running ∧ s.transmitting = true ∧ s.sc.linkUp = true ∧ s.st.txq = e :: rest ∧ e.complete = some f ∧
    s.st.sendCredits = 1 ∧ s.st.keepalive.running = true ∧ rest.length = n ∧
    (∀ r, s.se.opened = some r → r.nextLine < 1024 ∨ 48 ≤ rest.length) ∧ (∀ k, f ≠ .mark k .release) :=
  fun n hn => ⟨.slot 5#8 7#10 (some (true, zeros)), .line 5#8 true 7#10 zeros, marks n,
    { src .rinse with st := { (src .rinse).st with
        txq := .slot 5#8 7#10 (some (true, zeros)) :: marks n, sendCredits := 1, pendingMarks := [⟨7#8, .syncLost⟩] } },
    rfl, rfl, rfl, rfl, rfl, rfl, rfl, by simp [marks], by simp [src, State.reset, Se.initial], by simp⟩
/-- A SOURCE whose granule waits to close, behind a head to send and 47 entries. -/
def lateClose (x : SessionState) : State :=
  opened (withTxq (running (src x)) (.frame .keep :: marks 47)) (rec1 1 1024 false)
theorem witness_TxqSend_close : ∀ x ∈ [SessionState.sweep, .rinse], (lateClose x).phase = .running ∧
    (lateClose x).transmitting = true ∧ (lateClose x).sc.linkUp = true ∧ (lateClose x).st.txq = .frame .keep :: marks 47 ∧
    0 < (lateClose x).st.sendCredits ∧ (lateClose x).st.keepalive.running = true ∧ (marks 47).length < 48 ∧
    (lateClose x).st.pendingMarks = [] ∧ (lateClose x).sweeping = true ∧ (lateClose x).entry 1 = some .dirty ∧
    (lateClose x).se.opened = some (rec1 1 1024 false) ∧
    ((lateClose x).sc.state = .sweep ∧ (lateClose x).se.cursor.done = false ∨
      (lateClose x).sc.state = .rinse ∧ (lateClose x).se.scanIdx < (lateClose x).sc.params.span) := by decide +kernel
theorem witness_TxqSend_ends : ∀ x ∈ [SessionState.sweep, .rinse, .cutover], ∀ z : Bool, ∃ s : State,
    s = ending (lateClose x) z ∧ s.phase = .running ∧ s.transmitting = true ∧ s.sc.linkUp = true ∧
    s.st.txq = .frame .keep :: marks 47 ∧ 0 < s.st.sendCredits ∧ s.st.keepalive.running = true ∧ s.st.pendingMarks = [] ∧
    s.sweeping = true ∧ s.entry 1 = some .dirty ∧ s.se.opened = some (rec1 1 1024 false) ∧ s.sc.state = x ∧
    s.se.cursor.done = true ∧ s.sc.params.span ≤ s.se.scanIdx ∧ s.se.running = true ∧ s.d = (if z then 1 else 2) :=
  fun x _ z => ⟨ending (lateClose x) z, rfl, by revert x z; decide +kernel⟩
theorem witness_TxqSend_close_frame : ∀ n, Frame.keep ≠ .mark n .release := by simp

theorem witness_KeepaliveAndReturnList_source : ∃ s : State, s.phase = .running ∧ s.transmitting = true ∧
    s.st.keepalive.running = true ∧ s.sc.linkUp = true ∧ s.st.keepDue = true ∧ s.st.txq.head?.bind TxEntry.complete = none :=
  ⟨{ src .sweep with st := { (src .sweep).st with keepDue := true, txq := [.slot 5#8 7#10 none] } }, by decide +kernel⟩
theorem witness_KeepaliveAndReturnList_target : ∀ b : Bool, ∃ s : State, s.phase = .running ∧ s.receiving = true ∧
    s.st.keepalive.running = true ∧ s.sr.failedApply = [] ∧ s.sc.takenWaiting = false ∧ s.sr.buffer = [] ∧ s.sr.head = none ∧
    s.sr.creditDue = false ∧ s.sc.linkUp = true ∧ s.st.returnList = (if b then [] else List.replicate 16 (.need 5)) :=
  fun b => ⟨{ tgt .filling with st := { (tgt .filling).st with
    returnList := if b then [] else List.replicate 16 (.need 5) } }, by revert b; decide +kernel⟩
/-- A TARGET with a full return list and every claim waiting but those that a number leaves out. -/
def claiming (n : Nat) : State := { tgt .filling with
  st := { (tgt .filling).st with returnList := List.replicate 16 (.need 5) }
  sr := { (tgt .filling).sr with
    buffer := [.mirror 9#16 0 1#64 zeros]
    head := some ⟨if n < 3 then [.loss 4#16 5#16] else [], some ⟨false, 0, 1#64, zeros, 0, some 9#16⟩⟩
    failedApply := if n < 2 then [2, 1] else []
    creditDue := true }
  sc := { (tgt .filling).sc with takenWaiting := decide (n = 0) } }
theorem witness_KeepaliveAndReturnList_claims : ∀ n ∈ [0, 1, 2, 3], ∃ w : ApplyWrite, (claiming n).phase = .running ∧
    (claiming n).receiving = true ∧ (claiming n).st.keepalive.running = true ∧ (claiming n).sc.linkUp = true ∧
    (claiming n).st.returnList = .need 5 :: List.replicate 15 (.need 5) ∧ (claiming n).sr.head ≠ none ∧
    (claiming n).sc.takenWaiting = decide (n = 0) ∧ (claiming n).sr.failedApply = (if n < 2 then [2, 1] else []) ∧
    (claiming n).sr.head = some ⟨if n < 3 then [.loss 4#16 5#16] else [], some w⟩ ∧ (claiming n).sr.creditDue = true :=
  fun n _ => ⟨⟨false, 0, 1#64, zeros, 0, some 9#16⟩, by revert n; decide +kernel⟩
theorem witness_KeepaliveAndReturnList_frame : ∀ n, Frame.need 5 ≠ .taken n := by simp
theorem witness_KeepaliveAndReturnList_stopped : ∀ x ∈ [SessionState.listen, .fault], ∃ s : State, s.phase = .running ∧
    (s.targetIn .listen = true ∨ s.targetIn .fault = true) ∧ s.sc.state = x ∧ s.sc.linkUp = true ∧
    s.st.keepalive.running = false ∧ s.sc.takenWaiting = false ∧ s.sr.head = none ∧ s.sr.buffer = [] ∧
    s.st.returnList = List.replicate 16 (.need 5) :=
  fun x _ => ⟨{ tgt x with st := { (tgt x).st with returnList := List.replicate 16 (.need 5) } }, by revert x; decide +kernel⟩

theorem witness_SourceLosesLink : (src .shadow).phase = .running ∧ (src .shadow).transmitting = true ∧
    (src .shadow).sending = true ∧ (src .shadow).sr.silent.running = true ∧ (src .handshake).phase = .running ∧
    (src .handshake).sourceIn .handshake = true := by decide +kernel

theorem witness_TargetLosesLink : (tgt .listen).phase = .running ∧ (tgt .listen).transmitting = false ∧
    (tgt .listen).receiving = false ∧ (tgt .listen).sc.takeoverPending = false ∧ (tgt .filling).phase = .running ∧
    (tgt .filling).receiving = true ∧ (tgt .filling).sc.takeoverPending = false ∧ (tgt .filling).sc.takenWaiting = false ∧
    (tgt .filling).sr.buffer = [] ∧ (tgt .filling).sr.head = none := by decide +kernel
theorem witness_TargetLosesLink_takeover : ∃ s : State, s.phase = .running ∧ s.sc.role = .target ∧ s.sc.takeoverPending = true :=
  ⟨{ tgt .shadow with sc := { (tgt .shadow).sc with takeoverPending := true } }, by decide +kernel⟩
theorem witness_TargetLosesLink_kept : ∃ (s : State) (a : List Answer) (w : ApplyWrite), s.phase = .running ∧
    s.receiving = true ∧ s.sc.takeoverPending = false ∧ s.sc.takenWaiting = false ∧ s.sr.head = some ⟨a, some w⟩ ∧ a ≠ [] ∧
    s.sr.buffer.length = 1 ∧ s.sr.silent.running = true :=
  ⟨claiming 2, [.loss 4#16 5#16], ⟨false, 0, 1#64, zeros, 0, some 9#16⟩, by decide +kernel⟩
theorem witness_TargetLosesLink_silent : ∃ s : State, s.phase = .running ∧ s.sc.role = .target ∧ s.sc.takeoverPending = true ∧
    s.receiving = true ∧ s.sr.silent.running = true ∧ (tgt .listen).sr.silent.running = false :=
  ⟨{ tgt .filling with sc := { (tgt .filling).sc with takeoverPending := true } }, by decide +kernel⟩
/-- A TARGET in FAULT that drains its buffer, with or without a MIRROR after a gap behind the head. -/
def draining (gap : Bool) : State := { tgt .fault with
  sr := { (tgt .fault).sr with
    buffer := .mirror 0#16 0 1#64 zeros :: if gap then [.mirror 32768#16 3071 1#64 zeros, .keep] else []
    expected := 1
    head := some ⟨[], some ⟨false, 0, 1#64, zeros, 0, some 0#16⟩⟩ } }
theorem witness_TargetLosesLink_drain : ∀ b : Bool, (draining b).phase = .running ∧ (draining b).targetIn .fault = true ∧
    (draining b).sc.takenWaiting = false ∧ (draining b).sr.head = some ⟨[], some ⟨false, 0, 1#64, zeros, 0, some 0#16⟩⟩ ∧
    0 < (draining b).mp.credits ∧ (draining b).freeOwnTag = some 64 ∧ (draining b).cp.queue = [] ∧
    (draining b).sr.buffer = .mirror 0#16 0 1#64 zeros :: (if b then [.mirror 32768#16 3071 1#64 zeros, .keep] else []) ∧
    32768#16 ≠ (draining b).sr.expected ∧ (32768#16 - (draining b).sr.expected).toNat = 32767 ∧
    (3071#32).toNat / 1024 < (draining b).sc.params.span ∧ (draining b).localCovers ((3071#32).toNat / 1024) = false := by
  decide +kernel

theorem witness_HoldTimerExpires : ∀ a ∈ [2, 3], ∃ s : State, s.phase = .running ∧ s.sourceIn .cutover = true ∧
    s.sc.holdTimer.running = true ∧ s.st.txq.length = 61 ∧ s.st.pendingMarks = [] ∧ s.cvu.attempts = a :=
  fun a _ => ⟨{ withTxq (src .cutover) (marks 61) with cvu := { (src .cutover).cvu with attempts := a } },
    by revert a; decide +kernel⟩
/-- A TXQ and a pending mark list of given lengths. -/
def queuedMarks (s : State) (n m : Nat) : State :=
  { s with st := { s.st with txq := marks n, pendingMarks := List.replicate m ⟨7#8, .syncLost⟩ } }
theorem witness_HoldTimerExpires_marks : ∀ p ∈ [(62, 0), (63, 0), (64, 0), (64, 7), (64, 8)], ∃ s : State, s.phase = .running ∧
    s.sourceIn .cutover = true ∧ s.sc.holdTimer.running = true ∧ s.st.txq.length = p.1 ∧ s.st.pendingMarks.length = p.2 :=
  fun p _ => ⟨queuedMarks (src .cutover) p.1 p.2, by revert p; decide +kernel⟩

theorem witness_FramesDiscarded_sound : State.reset.phase = .running ∧
    (tgt .fault).phase = .running ∧ (tgt .fault).sc.linkUp = true ∧ (Frame.opening 1#24 1#8).wf = true ∧
    Frame.opening 1#24 1#8 ≠ .keep ∧ (tgt .fault).sc.role = .target ∧ (tgt .fault).sc.state = .fault ∧
    (∀ n sp q, Frame.opening 1#24 1#8 ≠ .hello n sp q) :=
  ⟨by decide +kernel, by decide +kernel, by decide +kernel, by decide +kernel, by decide +kernel, by decide +kernel,
    by decide +kernel, by simp⟩
theorem witness_FramesDiscarded_source : (src .handshake).sc.linkUp = true ∧ (src .handshake).sending = false ∧
    (src .handshake).sc.role = .source ∧ (Frame.ready 6#8 true).wf = true ∧
    (∀ ok, Frame.ready 6#8 true ≠ .ready (src .handshake).sc.session ok) ∧
    (∀ a fs, Frame.ready 6#8 true ≠ .reply (src .handshake).sc.session a fs) :=
  ⟨by decide +kernel, by decide +kernel, by decide +kernel, by decide +kernel, by decide +kernel, by simp⟩
theorem witness_FramesDiscarded_none : ∃ s : State, s.phase = .running ∧ s.sc.linkUp = true ∧ s.sc.role = .none ∧
    (Frame.ready s.sc.session true).wf = true ∧ Frame.ready s.sc.session true ≠ .keep :=
  ⟨{ State.reset with sc := { State.reset.sc with linkUp := true } }, by decide +kernel⟩
theorem witness_FramesDiscarded_sender :
    ∀ f ∈ [Frame.reply 7#8 .accept [], .reply 6#8 .refuseSpan [], .ready 6#8 true, .taken 8#8], f.wf = true ∧ f ≠ .keep ∧
      (src .cutover).phase = .running ∧ (src .cutover).sc.linkUp = true ∧ (src .cutover).sending = true ∧
      f.unwantedBySender (src .cutover).sc.session = true := by decide +kernel
theorem witness_FramesDiscarded_broken : crcChecks [6#8, 0#8, 0#8] = false ∧ crcChecks [1#8] = false ∧
    (src .rinse).sending = true ∧ (tgt .shadow).receiving = true ∧ (tgt .shadow).sr.creditDue = false ∧
    (tgt .shadow).sr.freed < 7 ∧ (tgt .shadow).sc.takenWaiting = false ∧ (tgt .shadow).sr.failedApply = [] ∧
    (tgt .shadow).sr.buffer = [] ∧ (tgt .shadow).sr.head = none ∧ (src .idle).sending = false ∧
    (src .idle).receiving = false ∧ (src .idle).sc.linkUp = true := by decide +kernel
theorem witness_FramesDiscarded_malformed : ∀ body ∈ [[0x15#8, 7#8, 3#8], [0x13#8, 0#8, 0#8], [0x08#8]],
    crcChecks (withCrc body) = true ∧ parseFrame (frameBody (withCrc body)) = none ∧
    ((withCrc body).length = 3 ↔ body = [0x08#8]) := by decide +kernel
theorem witness_FramesDiscarded_overflow : ∃ (s : State) (w : Option ApplyWrite), s.phase = .running ∧ s.sc.linkUp = true ∧
    s.receiving = true ∧ s.sr.buffer.length = 32 ∧ s.sr.head = some ⟨[], w⟩ ∧ s.sr.creditDue = false ∧ s.sr.freed = 6 ∧
    s.sc.takenWaiting = false ∧ s.sr.failedApply = [] :=
  ⟨{ applying 0 with sr := { (applying 0).sr with buffer := List.replicate 32 (.mirror 9#16 0 1#64 zeros) } },
    some ⟨false, 0, 1#64, zeros, 0, some 9#16⟩, by decide +kernel⟩

theorem witness_mrl (s : State) (h : ∀ i, (h : i < s.st.mrl.length) →
    s.st.mrl[i].seq = s.st.mirrorSeq - BitVec.ofNat 16 (s.st.mrl.length - i)) : MrlConsecutive s := h
theorem witness_CreditTaken : ∃ (n : Byte) (s : State), s.phase = .running ∧ s.sc.linkUp = true ∧ s.sending = true ∧
    s.st.sendCredits + n.toNat = 31 ∧ MrlConsecutive s ∧ s.st.mrl.length = 128 ∧
    (∃ pre r post, s.st.mrl = pre ++ r :: post ∧ r.seq = 0#16) ∧
    (32768 ≤ (65535#16 - s.st.mirrorSeq).toNat ∧ ∀ r ∈ s.st.mrl, r.seq ≠ 65535#16) ∧
    (128#16 - s.st.mirrorSeq).toNat < 32768 :=
  ⟨26#8, withMrl (src .shadow) 128, by decide +kernel, by decide +kernel, by decide +kernel, by decide +kernel,
    witness_mrl _ (by decide +kernel), by decide +kernel, ⟨[], _, _, rfl, rfl⟩, by decide +kernel, by decide +kernel⟩
theorem witness_CreditTaken_last : ∃ (n : Byte) (a newest : BitVec 16) (s : State), s.phase = .running ∧ s.sc.linkUp = true ∧
    s.sending = true ∧ s.sc.releasePending = false ∧ 32 ≤ s.st.sendCredits + n.toNat ∧ MrlConsecutive s ∧
    s.st.mrl.length ≤ 128 ∧ 32768 ≤ (a - s.st.mirrorSeq).toNat ∧ (∀ r ∈ s.st.mrl, r.seq ≠ a) ∧
    s.st.newestSent = some newest ∧ 32768 ≤ (newest - s.st.mirrorSeq).toNat :=
  ⟨27#8, 65535#16, 3#16, { withMrl (src .rinse) 6 with st := { (withMrl (src .rinse) 6).st with newestSent := some 3#16 } },
    by decide +kernel, by decide +kernel, by decide +kernel, by decide +kernel, by decide +kernel,
    witness_mrl _ (by decide +kernel), by decide +kernel, by decide +kernel, by decide +kernel, by decide +kernel,
    by decide +kernel⟩
theorem witness_CreditTaken_above : ∃ (n : Byte) (a newest : BitVec 16) (s : State) (pre kept : List MirrorRecord)
    (r : MirrorRecord), s.phase = .running ∧ s.sc.linkUp = true ∧ s.sending = true ∧ s.sc.releasePending = false ∧
    s.st.sendCredits + n.toNat = 33 ∧ MrlConsecutive s ∧ s.st.mrl.length ≤ 128 ∧ 32768 ≤ (a - s.st.mirrorSeq).toNat ∧
    (s.st.mrl = pre ++ r :: kept ∧ r.seq = a) ∧ s.st.newestSent = some newest ∧
    32768 ≤ (newest - s.st.mirrorSeq).toNat ∧ kept.length = 4 :=
  ⟨28#8, 1#16, 3#16, { withMrl (src .rinse) 6 with st := { (withMrl (src .rinse) 6).st with newestSent := some 3#16 } },
    [⟨0, 0⟩], [⟨2, 2⟩, ⟨3, 3⟩, ⟨4, 0⟩, ⟨5, 1⟩], ⟨1, 1⟩, by decide +kernel, by decide +kernel, by decide +kernel,
    by decide +kernel, by decide +kernel, witness_mrl _ (by decide +kernel), by decide +kernel, by decide +kernel,
    by decide +kernel, by decide +kernel, by decide +kernel, by decide +kernel⟩
theorem witness_CreditTaken_ahead : ∀ n ∈ [27#8, 28#8], ∃ s : State, s.phase = .running ∧ s.sc.linkUp = true ∧
    s.sending = true ∧ s.st.sendCredits + n.toNat = (if n = 27#8 then 32 else 33) ∧ s.st.mrl.length = 6 ∧
    (6#16 - s.st.mirrorSeq).toNat < 32768 :=
  fun n _ => ⟨withMrl (src .rinse) 6, by revert n; decide +kernel⟩
/-- A SOURCE with a CREDIT that settles its MRL on the way, DETACH accepted or not. -/
def released (x : SessionState) : State := { withMrl (src x) 6 with
  st := { (withMrl (src x) 6).st with newestSent := some 3#16 }
  sc := { (src x).sc with releasePending := true } }
theorem witness_CreditTaken_released : (released .rinse).phase = .running ∧ (released .rinse).sc.linkUp = true ∧
    (released .rinse).sending = true ∧ (released .rinse).st.sendCredits + (27#8).toNat = 32 ∧ MrlConsecutive (released .rinse) ∧
    (released .rinse).st.mrl.length ≤ 128 ∧ 32768 ≤ (65535#16 - (released .rinse).st.mirrorSeq).toNat ∧
    (∀ r ∈ (released .rinse).st.mrl, r.seq ≠ 65535#16) ∧ (released .rinse).st.newestSent = some 3#16 ∧
    32768 ≤ (3#16 - (released .rinse).st.mirrorSeq).toNat ∧ (released .rinse).sc.releasePending = true :=
  ⟨by decide +kernel, by decide +kernel, by decide +kernel, by decide +kernel, witness_mrl _ (by decide +kernel),
    by decide +kernel, by decide +kernel, by decide +kernel, by decide +kernel, by decide +kernel, by decide +kernel⟩

theorem witness_NeedAndLossTaken_need : ∀ b : Bool, ∃ s : State, s.phase = .running ∧ s.sc.linkUp = true ∧ s.sending = true ∧
    s.sc.releasePending = false ∧ s.sc.state ≠ .shadow ∧ s.entry 0 = some .copied ∧ s.isOpen 0 = false ∧ 0 < s.d ∧
    s.entry 1 = some .dirty ∧ s.isOpen 1 = b ∧ s.entry 3 = some .excluded ∧ s.entry 4 = none :=
  fun b => ⟨if b then opened (src .rinse) (rec1 1 0 false) else src .rinse, by revert b; decide +kernel⟩
theorem witness_NeedAndLossTaken_loss : (withMrl (src .shadow) 6).phase = .running ∧
    (withMrl (src .shadow) 6).sc.linkUp = true ∧ (withMrl (src .shadow) 6).sending = true ∧
    (withMrl (src .shadow) 6).sc.releasePending = false ∧ 1#16 ≠ 0 ∧ (32767#16).toNat < 32768 := by decide +kernel
theorem witness_NeedAndLossTaken_wakes : ∀ p : Bool, ∃ s : State, s.phase = .running ∧ s.sc.linkUp = true ∧ s.sending = true ∧
    s.sc.releasePending = false ∧ s.entry 0 = some .copied ∧ s.isOpen 0 = false ∧ s.sc.state ≠ .shadow ∧ s.d = 0 ∧
    s.se.waiting = true ∧ s.se.paused = p :=
  fun p => ⟨{ done .rinse with se := { Se.initial with waiting := true, paused := p } }, by revert p; decide +kernel⟩
theorem witness_NeedAndLossTaken_shadow : ∃ s : State, s.phase = .running ∧ s.sc.linkUp = true ∧ s.sending = true ∧
    s.sc.releasePending = false ∧ s.entry 0 = some .copied ∧ s.isOpen 0 = false ∧ s.sc.state = .shadow ∧
    s.st.txq.length = 61 ∧ s.st.pendingMarks = [] := ⟨withTxq (done .shadow) (marks 61), by decide +kernel⟩
theorem witness_NeedAndLossTaken_released : (released .shadow).phase = .running ∧ (released .shadow).sc.linkUp = true ∧
    (released .shadow).sending = true ∧ (released .shadow).sc.releasePending = true ∧ 1#16 ≠ 0 ∧ (1#16).toNat < 32768 ∧
    (32768#16).toNat = 32768 := by decide +kernel

theorem witness_ReadyTaken : ∀ z : Bool, ∃ s : State, s.phase = .running ∧ s.sc.linkUp = true ∧ s.sc.role = .source ∧
    s.sc.state = .cutover ∧ s.sc.awaitingReady = true ∧ s.d = (if z then 0 else 2) ∧ s.st.txq.length = 61 ∧
    s.st.pendingMarks = [] :=
  fun z => ⟨{ withTxq (if z then done .cutover else src .cutover) (marks 61) with
    sc := { (src .cutover).sc with awaitingReady := true } }, by revert z; decide +kernel⟩
theorem witness_ReadyTaken_late : (src .fault).phase = .running ∧ (src .fault).sc.linkUp = true ∧
    (src .fault).sc.role = .source ∧ (src .fault).sc.state ≠ .cutover := by decide +kernel

theorem witness_ReplyMovesSession : ∃ (s : State) (fs : List WireFence) (e : Extent) (rest : List Extent)
    (m : List GranuleState), s.phase = .running ∧ s.sc.linkUp = true ∧ s.sourceIn .handshake = true ∧
    ReplyAnswer.refuseSpan ≠ .accept ∧ fs.length = 8 ∧ s.se.plan = e :: rest ∧ s.gm.map = some m ∧
    s.mgp.counters.protocol = 16777215 :=
  ⟨{ src .handshake with
      se := { (src .handshake).se with plan := [⟨5, [⟨2, 1⟩]⟩] }
      mgp := { State.reset.mgp with counters := { Counters.zero with protocol := 16777215 } } },
    List.replicate 8 ⟨0, 0, false⟩, ⟨5, [⟨2, 1⟩]⟩, [], [.copied, .dirty, .uncopied, .excluded], by decide +kernel⟩
theorem witness_ReplyMovesSession_empty : ∃ s : State, s.phase = .running ∧ s.sc.linkUp = true ∧ s.sourceIn .handshake = true ∧
    s.gm.map.isSome = true ∧ s.mgp.counters.protocol ≤ 16777215 ∧ s.se.plan = [] ∧ s.se.opened = none ∧ s.se.paused = false ∧
    s.st.txq.length < 48 ∧ s.st.pendingMarks = [] := ⟨src .handshake, by decide +kernel⟩

theorem witness_TakenAndAbort : (src .shadow).phase = .running ∧ (src .shadow).sc.role = .source ∧
    (src .shadow).sc.linkUp = true ∧ (src .shadow).sending = true ∧ (src .idle).sc.state = .idle ∧
    (src .fault).sc.role = .source ∧ (src .fault).sc.state ≠ .idle ∧ (src .fault).sending = false ∧
    6#8 ≠ (src .shadow).sc.session ∧ (tgt .listen).sc.role = .target ∧
    (tgt .listen).sc.state ≠ .idle := by decide +kernel

theorem witness_HelloAtTarget_listen : ∀ n ∈ [15, 16], ∃ s : State, s.phase = .running ∧ s.sc.linkUp = true ∧
    s.targetIn .listen = true ∧ s.st.returnList.length = n ∧ (4#24).toNat = s.sc.params.span ∧
    (5#24).toNat ≠ s.sc.params.span :=
  fun n _ => ⟨{ tgt .listen with st := { (tgt .listen).st with returnList := List.replicate n (.reply 7#8 .refuseSpan []) } },
    by revert n; decide +kernel⟩
theorem witness_HelloAtTarget_fault : ∀ n ∈ [15, 16], ∃ s : State, s.phase = .running ∧ s.sc.linkUp = true ∧
    s.targetIn .fault = true ∧ s.st.returnList.length = n :=
  fun n _ => ⟨{ tgt .fault with st := { (tgt .fault).st with returnList := List.replicate n (.need 5) } },
    by revert n; decide +kernel⟩
theorem witness_HelloAtTarget_waits : ∀ x ∈ [SessionState.filling, .shadow], ∃ s : State, s.phase = .running ∧
    s.sc.linkUp = true ∧ s.receiving = true ∧ s.sc.state = x ∧ s.sr.buffer = [] ∧ s.sr.head = none ∧
    s.st.returnList.length = 16 :=
  fun x _ => ⟨{ tgt x with st := { (tgt x).st with returnList := List.replicate 16 (.need 5) } }, by revert x; decide +kernel⟩

/-- A TARGET that has nothing waiting, at the bounds, with an open latch of granule g and n lines applied. -/
def latched (x : SessionState) (g n : Nat) : State := { tgt x with
  st := { (tgt x).st with returnList := List.replicate 14 (.need 0) }
  sr := { (tgt x).sr with freed := 6, latch := some ⟨g, 5#8, n⟩ } }
def unlatched (x : SessionState) (clean : Bool) : State :=
  { latched x 0 0 with sr := { (latched x 0 0).sr with latch := none, clean := clean } }
theorem witness_HelloAtTarget_answered : ∀ x ∈ [SessionState.filling, .shadow], (unlatched x true).listening ∧
    (unlatched x true).receiving = true ∧ (unlatched x true).sr.buffer = [] ∧ (unlatched x true).sr.head = none := by
  unfold State.listening; decide +kernel
theorem witness_FramesDiscarded_target : ∀ x ∈ [SessionState.filling, .shadow],
    ∀ f ∈ [Frame.reply 7#8 .accept [], .credit 1#8 0#16, .need 0, .loss 0 1, .ready 7#8 true, .taken 7#8], f.wf = true ∧
      f ≠ .keep ∧ f.fromSource = false ∧ (unlatched x true).listening := by
  unfold State.listening; decide +kernel
theorem witness_GranuleFramesAtTarget : (latched .shadow 2 1024).listening ∧ (3#24).toNat < (latched .shadow 2 1024).sc.params.span ∧
    zeros.length = 64 ∧ (latched .shadow 2 1024).sr.latch = some ⟨(2#24).toNat, 5#8, 1024⟩ ∧
    (latched .shadow 2 1024).localCovers 2 = false := by unfold State.listening; decide +kernel
theorem witness_GranuleFramesAtTarget_fenced : (latched .shadow 3 1023).listening ∧
    (latched .shadow 3 1023).sr.latch = some ⟨3, 5#8, 1023⟩ ∧ (latched .shadow 3 1023).localCovers 3 = true := by
  unfold State.listening; decide +kernel
theorem witness_GranuleFramesAtTarget_short :
    ∀ n, 1024 ≤ n → (latched .shadow 3 1023).sr.latch ≠ some ⟨(3#24).toNat, 5#8, n⟩ := by
  intro n hn h
  simp [latched] at h
  omega
theorem witness_GranuleFramesAtTarget_outside : (latched .filling 2 1024).listening ∧
    (latched .filling 2 1024).sc.params.span ≤ (4#24).toNat ∧
    (∀ l, (latched .filling 2 1024).sr.latch = some l → 1024 ≤ l.applied ∧ l.openNo ≠ 6#8) := by
  refine ⟨by unfold State.listening; decide +kernel, by decide +kernel, ?_⟩
  rintro l ⟨⟩
  decide
theorem witness_GranuleFramesAtTarget_incomplete : (latched .shadow 2 1023).listening ∧
    (latched .shadow 2 1023).sr.latch = some ⟨2, 5#8, 1023⟩ ∧ (3#24).toNat < (latched .shadow 2 1023).sc.params.span := by
  unfold State.listening; decide +kernel
theorem witness_GranuleFramesAtTarget_incomplete_outside : (latched .shadow 2 1023).sr.latch = some ⟨2, 5#8, 1023⟩ ∧
    (latched .shadow 2 1023).sc.params.span ≤ (4#24).toNat := by decide +kernel

theorem witness_MirrorAtTarget : (unlatched .shadow true).listening ∧ zeros.length = 64 ∧
    (3071#32).toNat / 1024 < (unlatched .shadow true).sc.params.span ∧
    (unlatched .shadow true).localCovers ((3071#32).toNat / 1024) = false ∧
    0#16 - (unlatched .shadow true).sr.expected = 0 ∧ (32767#16 - (unlatched .shadow true).sr.expected).toNat = 32767 ∧
    (32768#16 - (unlatched .shadow true).sr.expected).toNat = 32768 := by unfold State.listening; decide +kernel
theorem witness_MirrorAtTarget_fenced : (unlatched .filling true).listening ∧
    (unlatched .filling true).localCovers ((3072#32).toNat / 1024) = true ∧
    (unlatched .filling true).sc.params.span ≤ (4096#32).toNat / 1024 ∧
    (32767#16 - (unlatched .filling true).sr.expected).toNat < 32768 := by unfold State.listening; decide +kernel

theorem witness_MarksAtTarget : ∀ x ∈ [SessionState.filling, .shadow], ∀ b : Bool, (unlatched x b).listening ∧
    (unlatched x b).sr.latch = none ∧ (unlatched x b).sc.takeoverPending = false ∧ (unlatched x b).sc.state = x ∧
    (unlatched x b).sr.clean = b := by unfold State.listening; decide +kernel
theorem witness_MarksAtTarget_latched : ∀ n ∈ [1023, 1024], (latched .filling 2 n).listening ∧
    (latched .filling 2 n).sc.takeoverPending = false ∧ (latched .filling 2 n).sr.latch = some ⟨2, 5#8, n⟩ ∧
    (latched .filling 2 n).sc.state = .filling ∧ 8#8 ≠ (latched .filling 2 n).sc.session := by
  unfold State.listening; decide +kernel
theorem witness_MarksAtTarget_takeover : ∀ x ∈ [SessionState.filling, .shadow], ∀ n ∈ [1023, 1024], ∃ s : State, s.listening ∧
    s.sc.state = x ∧ s.sc.takeoverPending = true ∧ s.sr.latch = some ⟨2, 5#8, n⟩ :=
  fun x _ n _ => ⟨{ latched x 2 n with sc := { (latched x 2 n).sc with takeoverPending := true } }, by
    revert x n; unfold State.listening; decide +kernel⟩

theorem witness_RefusedCommand : State.reset.phase = .running ∧ (Instr.start []).managed = true ∧
    (Instr.start []).guarded = true ∧ State.reset.mgp.armLatch = false ∧ (armed State.reset).phase = .running ∧
    (armed State.reset).mgp.armLatch = true ∧ (Instr.start [1#8]).layout = some ([1#8], 0) ∧
    (Instr.setMask [1#8]).layout = some ([1#8], 2) ∧ (Instr.setMask [1#8]).guarded = false := by decide +kernel

theorem witness_ReadsReturnRecords : fromBytes [0x0F#8, 0xFF#8, 0xFF#8] = 1048575 ∧ fromBytes [0x10#8, 0#8, 0#8] = 1048576 := by
  decide +kernel
theorem witness_ReadsReturnRecords_shown : (tgt .shadow).phase = .running ∧ (tgt .shadow).sc.role = .target ∧
    (opened (src .rinse) (rec1 1 7 true)).phase = .running ∧ (opened (src .rinse) (rec1 1 7 true)).sc.role = .source ∧
    (opened (src .rinse) (rec1 1 7 true)).se.opened = some (rec1 1 7 true) ∧ (src .rinse).se.opened = none ∧
    (src .rinse).sc.startFail ≠ some .accept ∧ (src .rinse).cvu.attempts ≤ 3 := by decide +kernel

theorem witness_ArmLatch : State.reset.phase = .running ∧ (Instr.takeover []).guarded = true ∧
    (Instr.abort []).managed = true ∧ (Instr.abort []).guarded = false ∧
    (∀ ps, Instr.abort [] ≠ .arm ps ∧ Instr.abort [] ≠ .disarm ps ∧ Instr.abort [] ≠ .reset ps) :=
  ⟨by decide +kernel, by decide +kernel, by decide +kernel, by decide +kernel, by simp⟩

theorem witness_CommandReset : ∀ b : Bool, ∃ s : State, s.phase = .running ∧ s.mgp.resetEnable = b :=
  fun b => ⟨{ src .cutover with mgp := { State.reset.mgp with resetEnable := b } }, by revert b; decide +kernel⟩
theorem witness_CommandReset_other : (Instr.status []).managed = true ∧ ∀ ps, Instr.status [] ≠ .resetEnable ps :=
  ⟨by decide +kernel, by simp⟩

theorem witness_SetSession : (src .idle).phase = .running ∧ (src .idle).sc.state = .idle ∧ (src .rinse).sc.state ≠ .idle ∧
    (2#8).toNat ≤ 2 ∧ 1 ≤ (1048576#24).toNat ∧ (1048576#24).toNat ≤ 1048576 ∧ (1#8).toNat ≤ 1 ∧ ¬ (3#8).toNat ≤ 2 ∧
    ¬ 1 ≤ (0#24).toNat ∧ ¬ (1048577#24).toNat ≤ 1048576 := by decide +kernel
theorem witness_SetSession_target : (2#8).toNat ≤ 2 ∧ 2#8 ≠ 0 ∧ 2#8 ≠ 1 ∧
    (src .idle).sc.state = .idle := by decide +kernel

/-- The parameters of a LOAD_EXTENT at position i of one level with a stride. -/
def extentBytes (i : Byte) (levels : Byte) (stride : List Byte) : List Byte :=
  [i, 0x0F#8, 0xFF#8, 0xFF#8, levels, 0#8, 8#8] ++ stride ++ List.replicate 10 9#8
def planned (n : Nat) : State := { src .idle with se := { (src .idle).se with plan := List.replicate n ⟨0, []⟩ } }
theorem witness_PlanCommands : ∀ n ∈ [15, 16], (planned n).phase = .running ∧ (planned n).sc.state = .idle ∧
    (extentBytes 15 1 [0x0F#8, 0xFF#8, 0xFF#8]).length = 20 ∧ fromBytes ((extentBytes 15 1 [0x0F#8, 0xFF#8, 0xFF#8]).take 1) = 15 ∧
    (planned n).se.plan.length = n ∧ levelCountAt (extentBytes 15 1 [0x0F#8, 0xFF#8, 0xFF#8]) 1 ≤ 3 ∧
    (extentAt (extentBytes 15 1 [0x0F#8, 0xFF#8, 0xFF#8]) 1).first = 1048575 ∧
    (∀ l ∈ (extentAt (extentBytes 15 1 [0x0F#8, 0xFF#8, 0xFF#8]) 1).levels, l.stride < 1048576) := by decide +kernel
theorem witness_PlanCommands_refused : (extentBytes 15 4 [0#8, 0#8, 1#8]).length = 20 ∧
    3 < levelCountAt (extentBytes 15 4 [0#8, 0#8, 1#8]) 1 ∧
    (∃ l ∈ (extentAt (extentBytes 0 1 [0x10#8, 0#8, 0#8]) 1).levels, 1048576 ≤ l.stride) ∧
    (planned 14).se.plan.length < fromBytes ((extentBytes 15 1 [0#8, 0#8, 1#8]).take 1) ∧ (src .sweep).sc.state ≠ .idle := by
  decide +kernel
theorem witness_PlanCommands_frame : ∃ t, exec .linkDown (src .sweep) = .next t ∧ (src .sweep).sc.state ≠ .idle ∧
    Instr.linkDown ≠ .powerOn ∧ Instr.linkDown ≠ .lineReset :=
  ⟨_, rfl, by decide +kernel, by decide +kernel, by decide +kernel⟩
theorem witness_PlanCommands_idle : ∃ t, exec (.resetEnable []) (src .idle) = .next t ∧ (src .idle).sc.state = .idle ∧
    (∀ ps, Instr.resetEnable [] ≠ .loadExtent ps ∧ Instr.resetEnable [] ≠ .planClear ps) ∧
    Instr.resetEnable [] ≠ .powerOn ∧ Instr.resetEnable [] ≠ .lineReset :=
  ⟨_, rfl, by decide +kernel, by simp, by decide +kernel, by decide +kernel⟩

def lockedAs (m : LockMode) : State := armed { src .idle with gm := { (src .idle).gm with lock := m } }
theorem witness_SetFence : (src .idle).phase = .running ∧ (src .idle).mgp.armLatch = false ∧ (lockedAs .strap).phase = .running ∧
    (lockedAs .strap).mgp.armLatch = true ∧ (lockedAs .strap).sc.state = .idle ∧ (lockedAs .strap).gm.lock = .strap ∧
    (lockedAs .session).gm.lock = .session ∧ (7#8).toNat < 8 ∧ ¬ (8#8).toNat < 8 ∧ (2#8).getLsbD 1 = true ∧
    (1#8).getLsbD 1 = false ∧ (1048575#24).toNat < 1048576 ∧ (1048576#24).toNat ≤ 1048576 ∧
    (armed (src .sweep)).sc.state ≠ .idle := by decide +kernel

theorem witness_LockMovesForward : (lockedAs .session).phase = .running ∧ (lockedAs .session).mgp.armLatch = true ∧
    (lockedAs .session).gm.lock = .session ∧ (lockedAs .strap).gm.lock ≠ .session ∧ (0#8) ≠ 1 ∧ (3#8) ≠ 2 ∧
    (src .idle).mgp.armLatch = false := by decide +kernel

theorem witness_StartAndListen : (armed (src .idle)).phase = .running ∧ (armed (src .idle)).mgp.armLatch = true ∧
    (armed (src .idle)).sc.role = .source ∧ (armed (src .idle)).sc.state = .idle ∧ (armed (src .idle)).sc.linkUp = true ∧
    (armed (src .idle)).sc.params.span ≠ 0 ∧ (armed (tgt .idle)).sc.role = .target ∧ (armed (tgt .idle)).sc.state = .idle ∧
    (armed (tgt .idle)).sc.params.span ≠ 0 ∧ (armed (tgt .idle)).mgp.armLatch = true ∧
    ((armed (tgt .idle)).setSc { (armed (tgt .idle)).sc with state := .listen }).headRefused = false ∧
    (armed (tgt .shadow)).sc.state ≠ .idle := by decide +kernel

/-- A WAITING SOURCE in RINSE, with D at 0 or above. -/
def waiting (d : Bool) (paused deferred : Bool) : State :=
  { (if d then src .rinse else done .rinse) with
    se := { (src .rinse).se with waiting := true, paused := paused, deferred := deferred } }
theorem witness_PauseAndResume : ∀ d f : Bool, (waiting d true f).phase = .running ∧ (waiting d true f).sc.role = .source ∧
    (waiting d true f).sc.state = .rinse ∧ (waiting d true f).sc.releasePending = false ∧ (waiting d true f).se.paused = true ∧
    (waiting d true f).se.deferred = f ∧ (waiting d true f).se.waiting = true ∧ (waiting d true f).se.running = false ∧
    (waiting d true f).d = (if d then 2 else 0) ∧ (waiting d true f).cvu.armed = false ∧ (waiting d false f).se.paused = false ∧
    (src .cutover).sc.state ≠ .rinse := by decide +kernel
theorem witness_PauseAndResume_tested : ∀ d e : Bool, ∃ s : State, s.phase = .running ∧ s.sc.role = .source ∧
    s.sc.state = .rinse ∧ s.sc.releasePending = false ∧ s.se.paused = true ∧ s.se.deferred = true ∧ s.cvu.armed = true ∧
    eligibleFor s.sc.params s.cvu.heldC s.d = e ∧ s.d = (if d then 2 else 0) ∧ s.st.txq.length = 59 ∧ s.st.pendingMarks = [] :=
  fun d e => ⟨{ withTxq (waiting d true true) (marks 59) with
    cvu := { (src .rinse).cvu with heldC := 20, armed := true }
    sc := { (src .rinse).sc with params := { (src .rinse).sc.params with hLimit := if e then 2000 else 50 } } },
    by revert d e; decide +kernel⟩

/-- A SOURCE in SWEEP at a position of a plan of two extents. -/
def skipping (e : Extent) (left : List Nat) : State := { src .sweep with
  se := { (src .sweep).se with plan := [e, ⟨2, []⟩], cursor := ⟨0, left, some 1, false⟩ } }
theorem witness_SkipMovesCursor : ∀ p ∈ [(⟨1, []⟩, []), ((⟨1, [⟨4096, 1⟩]⟩ : Extent), [7]), (⟨1, [⟨2, 1⟩, ⟨3, 1⟩]⟩, [2, 1])],
    (skipping p.1 p.2).phase = .running ∧ (skipping p.1 p.2).sc.role = .source ∧ (skipping p.1 p.2).sc.state = .sweep ∧
    (skipping p.1 p.2).sc.releasePending = false ∧ (skipping p.1 p.2).se.cursor.done = false ∧
    (skipping p.1 p.2).se.plan[(skipping p.1 p.2).se.cursor.extent]? = some p.1 ∧
    (skipping p.1 p.2).se.plan[(skipping p.1 p.2).se.cursor.extent + 1]? = some ⟨2, []⟩ ∧
    (skipping p.1 p.2).se.cursor.remaining.length = p.1.levels.length ∧ (src .rinse).sc.state ≠ .sweep := by decide +kernel
/-- The same at the last extent of its plan, a granule open or not. -/
def skippingLast (run own : Bool) : State :=
  let s := withTxq (skipping ⟨1, [⟨2, 1⟩, ⟨3, 1⟩]⟩ [1, 2]) (marks 59)
  { s with se := { s.se with
    running := run
    opened := if own then some (rec1 1 7 false) else none
    plan := [⟨1, [⟨2, 1⟩, ⟨3, 1⟩]⟩] } }
theorem witness_SkipMovesCursor_last : ∀ r o : Bool, (skippingLast r o).phase = .running ∧
    (skippingLast r o).sc.role = .source ∧ (skippingLast r o).sc.state = .sweep ∧
    (skippingLast r o).sc.releasePending = false ∧ (skippingLast r o).se.cursor.done = false ∧
    (skippingLast r o).se.plan[(skippingLast r o).se.cursor.extent]? = some ⟨1, [⟨2, 1⟩, ⟨3, 1⟩]⟩ ∧
    (skippingLast r o).se.plan.length ≤ (skippingLast r o).se.cursor.extent + 1 ∧ (skippingLast r o).st.txq.length = 59 ∧
    (skippingLast r o).st.pendingMarks = [] ∧ (skippingLast r o).se.opened.isNone = !o ∧
    (skippingLast r o).se.running = r ∧ (∀ x ∈ (skippingLast r o).se.cursor.remaining.dropLast, x ≤ 1) ∧
    (skippingLast r o).se.cursor.remaining.length = 2 := by decide +kernel
theorem witness_SkipMovesCursor_done : ∃ s : State, s.phase = .running ∧ s.sc.role = .source ∧ s.sc.state = .sweep ∧
    s.sc.releasePending = false ∧ s.se.cursor.done = true :=
  ⟨{ src .sweep with se := { (src .sweep).se with cursor := ⟨1, [], none, true⟩ } }, by decide +kernel⟩
theorem witness_SkipMovesCursor_levels :
    ∀ p ∈ [(([1], 2, 0, 3) : List Nat × Nat × Nat × Nat), ([], 4096, 1, 2), ([], 2, 1, 4096)],
      let e : Extent := ⟨1, [⟨4096, 1⟩, ⟨2, 1⟩, ⟨4096, 1⟩]⟩
      let left := p.1 ++ p.2.1 :: (List.replicate p.2.2.1 1 ++ [p.2.2.2])
      1 < p.2.1 ∧ left.length = e.levels.length ∧ (skipping e left).se.cursor.remaining = left ∧
      (skipping e left).se.plan[(skipping e left).se.cursor.extent]? = some e ∧ (skipping e left).se.cursor.done = false ∧
      (skipping e left).sc.state = .sweep ∧ (skipping e left).sc.releasePending = false := by decide +kernel

theorem witness_CutoverArms : ∀ d e : Bool, ∃ s : State, s.phase = .running ∧ s.mgp.armLatch = true ∧ s.sc.role = .source ∧
    s.sc.state = .rinse ∧ s.sc.releasePending = false ∧ s.se.waiting = true ∧ s.se.paused = false ∧
    eligibleFor s.sc.params s.cvu.heldC s.d = e ∧ s.d = (if d then 2 else 0) ∧ s.st.txq.length = 59 ∧ s.st.pendingMarks = [] :=
  fun d e => ⟨{ withTxq (armed (waiting d false false)) (marks 59) with
    cvu := { (src .rinse).cvu with heldC := 20 }
    sc := { (src .rinse).sc with params := { (src .rinse).sc.params with hLimit := if e then 2000 else 50 } } },
    by revert d e; decide +kernel⟩

theorem witness_Detach : ∃ s : State, s.phase = .running ∧ s.mgp.armLatch = true ∧ s.sending = true ∧
    s.sc.releasePending = false ∧ s.st.txq.length = 61 ∧ s.st.pendingMarks = [] ∧ (armed (tgt .shadow)).sending = false :=
  ⟨armed (withTxq (src .cutover) (marks 61)), by decide +kernel⟩
theorem witness_Detach_marks : ∀ p ∈ [(62, 0), (63, 0), (64, 0), (64, 7), (64, 8)], ∃ s : State, s.phase = .running ∧
    s.mgp.armLatch = true ∧ s.sending = true ∧ s.sc.releasePending = false ∧ s.st.txq.length = p.1 ∧
    s.st.pendingMarks.length = p.2 :=
  fun p _ => ⟨armed (queuedMarks (src .shadow) p.1 p.2), by revert p; decide +kernel⟩
theorem witness_Detach_send : ∀ b : Bool, ∃ s : State, s.phase = .running ∧ s.mgp.armLatch = b ∧ s.transmitting = true ∧
    s.sc.linkUp = true ∧ s.st.keepalive.running = true ∧ s.st.txq = [.frame (.mark 7#8 .release)] ∧ 0 < s.st.sendCredits :=
  fun b => ⟨{ withTxq (src .cutover) [.frame (.mark 7#8 .release)] with mgp := { State.reset.mgp with armLatch := b } },
    by revert b; decide +kernel⟩

theorem witness_Takeover : ∀ l : Bool, ∃ s : State, s.phase = .running ∧ s.mgp.armLatch = true ∧ s.sc.role = .target ∧
    s.sc.takeoverPending = false ∧ s.sc.state = .filling ∧ s.sc.linkUp = l ∧ s.st.returnList.length = 15 ∧
    s.sr.failedApply = [] ∧ s.sr.creditDue = false ∧ s.sr.buffer = [] ∧ s.sr.head = none ∧
    (armed (src .shadow)).sc.role ≠ .target :=
  fun l => ⟨{ armed (tgt .filling) with
    st := { (tgt .filling).st with returnList := List.replicate 15 (.need 1) }
    sc := { (tgt .filling).sc with linkUp := l } }, by revert l; decide +kernel⟩
theorem witness_Takeover_send : ∃ s : State, s.phase = .running ∧ s.sc.role = .target ∧ s.sc.linkUp = true ∧
    s.sc.takeoverPending = true ∧ s.st.keepalive.running = true ∧ s.st.returnList = [.taken 7#8] :=
  ⟨{ tgt .shadow with
    st := { (tgt .shadow).st with returnList := [.taken 7#8] }
    sc := { (tgt .shadow).sc with takeoverPending := true } }, by decide +kernel⟩
theorem witness_Takeover_full : ∀ b : Bool, ∃ s : State, s.phase = .running ∧ s.mgp.armLatch = true ∧ s.sc.role = .target ∧
    s.sc.takeoverPending = false ∧ s.sc.state = (if b then .shadow else .fault) ∧ s.sc.linkUp = true ∧
    s.st.returnList.length = 16 ∧ s.sr.head = none ∧ s.sr.buffer = [] :=
  fun b => ⟨{ armed (tgt (if b then .shadow else .fault)) with
    st := { (tgt .shadow).st with returnList := List.replicate 16 (.need 1) } }, by revert b; decide +kernel⟩
theorem witness_Takeover_send_fault : ∃ s : State, s.phase = .running ∧ s.sc.role = .target ∧ s.sc.linkUp = true ∧
    s.sc.state = .fault ∧ s.sc.takeoverPending = true ∧ s.st.keepalive.running = false ∧ s.st.returnList = [.taken 7#8] :=
  ⟨{ tgt .fault with
    st := { (tgt .fault).st with returnList := [.taken 7#8] }
    sc := { (tgt .fault).sc with takeoverPending := true } }, by decide +kernel⟩

theorem witness_ReadEvent : State.reset.phase = .running ∧ (State.reset.capture .need (some 5) .absent).phase = .running := by
  decide +kernel

theorem witness_AlertsAndMask : (State.reset.raise .fault).phase = .running := by decide +kernel

theorem witness_ResetsLeaveFirstValues : State.reset.lineReset.phase ≠ .running ∧ State.reset.powerOnReset.phase ≠ .running ∧
    (Instr.arbitration).takenInReset = false ∧ (src .shadow).phase = .running := by decide +kernel

theorem witness_PredictedHold : 0 < 1 ∧ (65535 : Nat) ≤ 65535 ∧ predictedHold 1048576 65535 65535 = 81920 ∧
    eligibleFor Params.defaults 20 64 = false ∧ eligibleFor Params.defaults 20 35 = true := by decide +kernel

theorem witness_PassEndArithmetic : ∀ n ∈ [0, 1], ∃ s : State, s.gm.nc = n ∧ s.cvu.streak = 2 ∧ s.cvu.share = 15 ∧
    (s.takePassEnd.cvu.record.r < s.takePassEnd.cvu.record.c ↔ n = 1) :=
  fun n _ => ⟨{ src .rinse with
    gm := { (src .rinse).gm with nc := n }
    cvu := { (src .rinse).cvu with streak := 2, share := 15 } }, by revert n; decide +kernel⟩
/-- R150: a transition taken while WAITING or DEFERRED counts toward the next pass, whose start returns N_d to 0 (R10, R70). -/
theorem test_wake_counts : at1 (.frameArrival (Frame.need 0).bytes)
    { done .rinse with se := { Se.initial with waiting := true }, gm := { (done .rinse).gm with nd := 9 } }
    (fun t => (t.se.running, t.gm.nd, t.gm.ndNext, t.takePassEnd.cvu.record.nd)) = some (true, 0, 1, 1) := by decide +kernel
/-- R170: the rinse pass of an abort counts itself alone. -/
theorem test_abort_counts : at1 .holdTimerExpiry { src .cutover with gm := { (src .cutover).gm with nd := 3, ndNext := 5 } }
    (fun t => (t.gm.nd, t.gm.ndNext, t.se.running)) = some (0, 0, true) := by decide +kernel

/-- States of a session that meet the premises of the invariants, with a command to step. -/
def busy : State := { recorded (queued (withMrl (src .rinse) 6) [.read 4 5]) ⟨3, .client, .read, 0⟩ with pending := [.arbitration] }
def level : State := { done .shadow with pending := [.linkDown] }
theorem witness_StepKeepsPorts : (∃ t, step busy = .next t) ∧ ClientCreditsBalance busy ∧ RequestTableSound busy ∧
    SharesInRange busy ∧ ListsInBounds busy ∧ MrlConsecutive busy :=
  ⟨⟨_, rfl⟩, by unfold ClientCreditsBalance; decide +kernel, by unfold RequestTableSound; decide +kernel,
    by unfold SharesInRange; decide +kernel, by unfold ListsInBounds; decide +kernel, witness_mrl _ (by decide +kernel)⟩
theorem witness_StepKeepsShadowLevel : (∃ t, step level = .next t) ∧ level.sourceIn .shadow = true ∧ ShadowLevel level :=
  ⟨⟨_, rfl⟩, by decide +kernel, ⟨by decide +kernel, by decide +kernel⟩, (by intro r h; cases h), (by intro h; cases h rfl),
    by decide +kernel⟩
theorem witness_StepKeepsSession : (∃ t, step level = .next t) ∧ ClocksFollowState level ∧ StateFitsRole level ∧
    SyncedAlone level ∧ ConvergenceClearOnTarget level :=
  ⟨⟨_, rfl⟩, by unfold ClocksFollowState; decide +kernel, trivial, by unfold SyncedAlone; decide +kernel,
    by unfold ConvergenceClearOnTarget; decide +kernel⟩
theorem witness_StepKeepsSession_target : (tgt .shadow).sc.role = .target ∧ ConvergenceClearOnTarget (tgt .shadow) :=
  ⟨by decide +kernel, by unfold ConvergenceClearOnTarget; decide +kernel⟩

theorem witness_FencedTarget : ∃ s : State, HeadJudged s ∧ s.fencing = true ∧
    (match step s with
      | .next t => t.out
      | _ => []) = [.clientCredits 1, .memRequest 3 (.write 3072#30 1#64 zeros)] :=
  ⟨{ queued (tgt .shadow) [wr 3 3] with pending := [.arbitration] }, by unfold HeadJudged; decide +kernel⟩

theorem witness_ExcludedGranules : ∃ t, exec .arbitration (writing (src .rinse) 0) = .next t ∧
    (∀ ps, Instr.arbitration ≠ .start ps) ∧ (writing (src .rinse) 0).entry 3 = some .excluded ∧
    .frame (.mirror 0#16 0#32 1#64 zeros) ∈ t.st.txq := ⟨_, rfl, by simp, by decide +kernel, by decide +kernel⟩

theorem witness_CommandBytes : (Instr.skipLevel [1#8]).wf = true ∧ (Instr.skipLevel [1#8]).toWrite = some [0x24#8, 1#8] := by
  decide +kernel

theorem witness_FrameBytes : (Frame.reply 7#8 .accept [⟨3#24, 1#24, true⟩]).wf = true := by decide +kernel

end Sys2Proof.Tests
end

/-! ## The map under every operation

The invariants about the granule map rest on few fields of the state: the map with its census, the open granule, the role, the
session state and the span. `Keeps` says once what an operation leaves of them; each operation of the model has one lemma. -/

namespace Sys2Proof.Machine

open Sys2Proof

/-! ### The fields the map's claims rest on -/

/-- The granule of the open record (R5). -/
def State.openAt (s : State) : Option Nat := s.se.opened.map (·.granule)

/-- What the claims about the map read, but for what moves within a session: the session state and RELEASE_PENDING. -/
def State.ground (s : State) :
    Option (List GranuleState) × Census × List (Option Fence) × LockMode × Option Nat × Role × Nat × List TxEntry :=
  (s.gm.map, s.gm.census, s.gm.localFences, s.gm.lock, s.openAt, s.sc.role, s.sc.params.span, s.st.txq)

/-- `ShadowLevel` without its last clause, which alone speaks of SHADOW. -/
def OpenLevel (s : State) : Prop :=
  CensusLevel s ∧
  (∀ g, s.openAt = some g → s.entry g = some .uncopied ∨ s.entry g = some .dirty) ∧
  (s.openAt ≠ none → s.sweeping = true ∨ s.sending = true ∧ s.sc.releasePending = true)

theorem shadowLevel_iff (s : State) :
    ShadowLevel s ↔ OpenLevel s ∧ (s.sourceIn .shadow = true → s.d = 0 ∧ s.openAt = none) := by
  simp only [ShadowLevel, OpenLevel, State.openAt]
  cases s.se.opened <;> simp [and_assoc]

/-- What an operation keeps of the map while it may pass through a state in which a SOURCE in SHADOW has D above 0. `P` holds of the
granules for which it may make a MIRROR. -/
structure Steady (P : Nat → Prop) (s t : State) : Prop where
  localFences : t.gm.localFences = s.gm.localFences
  lock : t.gm.lock = s.gm.lock
  noMap : s.gm.map = none → t.gm.map = none
  excluded : ∀ g, s.entry g = some .excluded → t.entry g = some .excluded ∨ t.gm.map = none
  mirrors : ∀ q a m d, .frame (.mirror q a m d) ∈ t.st.txq →
    .frame (.mirror q a m d) ∈ s.st.txq ∨ P (granuleOf a.toNat)
  censusLevel : CensusLevel s → CensusLevel t
  openLevel : OpenLevel s → OpenLevel t

/-- What an operation keeps of the map. -/
structure Keeps (P : Nat → Prop) (s t : State) : Prop extends Steady P s t where
  shadowLevel : ShadowLevel s → ShadowLevel t

variable {P : Nat → Prop} {s t u : State}

theorem Steady.trans (h : Steady P s t) (k : Steady P t u) : Steady P s u where
  localFences := k.localFences.trans h.localFences
  lock := k.lock.trans h.lock
  noMap hm := k.noMap (h.noMap hm)
  excluded g hg := (h.excluded g hg).elim (k.excluded g) fun hm => .inr (k.noMap hm)
  mirrors q a m d hu := (k.mirrors q a m d hu).elim (h.mirrors q a m d) .inr
  censusLevel hc := k.censusLevel (h.censusLevel hc)
  openLevel ho := k.openLevel (h.openLevel ho)

theorem Keeps.trans (h : Keeps P s t) (k : Keeps P t u) : Keeps P s u :=
  ⟨h.toSteady.trans k.toSteady, fun hs => k.shadowLevel (h.shadowLevel hs)⟩

/-- The last of two operations first. -/
theorem Keeps.after (k : Keeps P t u) (h : Keeps P s t) : Keeps P s u := h.trans k

theorem Keeps.ite {c : Prop} [Decidable c] (h : Keeps P s t) (k : Keeps P s u) : Keeps P s (if c then t else u) := by
  split
  · exact h
  · exact k

/-- An operation that does not end in a SOURCE's SHADOW owes SHADOW nothing. -/
theorem Steady.keeps (h : Steady P s t) (ht : t.sourceIn .shadow = false) : Keeps P s t :=
  ⟨h, fun hs => (shadowLevel_iff t).2 ⟨h.openLevel ((shadowLevel_iff s).1 hs).1, by simp [ht]⟩⟩

/-! ### Operations that leave the ground as it is -/

theorem censusLevel_congr (h : t.ground = s.ground) : CensusLevel s → CensusLevel t := by
  simp only [State.ground, Prod.mk.injEq] at h
  obtain ⟨hm, hc, -, -, -, -, hspan, -⟩ := h
  simp only [CensusLevel, hm, hc, hspan]
  exact id

theorem entry_congr (h : t.ground = s.ground) (g : Nat) : t.entry g = s.entry g := by
  simp only [State.ground, Prod.mk.injEq] at h
  simp only [State.entry, h.1]

/-- An operation on the ground as it is: what remains is where it leaves the open granule and SHADOW. -/
theorem Steady.of_ground (h : t.ground = s.ground)
    (hw : s.openAt ≠ none → s.sweeping = true ∨ s.sending = true ∧ s.sc.releasePending = true →
      t.sweeping = true ∨ t.sending = true ∧ t.sc.releasePending = true) : Steady P s t := by
  have hg := h
  simp only [State.ground, Prod.mk.injEq] at hg
  obtain ⟨hm, -, hf, hl, ho, -, -, hq⟩ := hg
  refine ⟨hf, hl, fun h0 => hm.trans h0, fun g hx => .inl ((entry_congr h g).trans hx), fun q a m d hx => .inl (hq ▸ hx),
    censusLevel_congr h, fun ⟨hc, hx, hs⟩ => ⟨censusLevel_congr h hc, fun g hog => ?_, fun hn => ?_⟩⟩
  · rw [entry_congr h]
    exact hx g (ho ▸ hog)
  · exact hw (ho ▸ hn) (hs (ho ▸ hn))

/-- An operation that leaves the ground, the session state and RELEASE_PENDING keeps the map. -/
theorem Keeps.of_same (h : t.ground = s.ground) (hst : t.sc.state = s.sc.state)
    (hrp : t.sc.releasePending = s.sc.releasePending) : Keeps P s t := by
  have hg := h
  simp only [State.ground, Prod.mk.injEq] at hg
  obtain ⟨-, hc, -, -, ho, hr, -, -⟩ := hg
  have hsteady : Steady P s t := .of_ground h fun _ hw => by
    simpa only [State.sweeping, State.sending, State.sourceIn, hr, hst, hrp] using hw
  refine ⟨hsteady, fun hs => ?_⟩
  obtain ⟨h1, h2⟩ := (shadowLevel_iff s).1 hs
  refine (shadowLevel_iff t).2 ⟨hsteady.openLevel h1, fun hx => ?_⟩
  simp only [State.d, hc, ho]
  exact h2 (by simpa only [State.sourceIn, hr, hst] using hx)

/-- On a part that is no SOURCE no granule is open, so the session state is free. -/
theorem Keeps.of_receiver (hr : s.sc.role ≠ .source) (h : t.ground = s.ground) : Keeps P s t := by
  have hrole : t.sc.role = s.sc.role := by
    simp only [State.ground, Prod.mk.injEq] at h
    exact h.2.2.2.2.2.1
  refine Steady.keeps (.of_ground h fun _ hw => ?_) (by simp [State.sourceIn, hrole, hr])
  simp [State.sweeping, State.sending, State.sourceIn, hr] at hw

theorem Keeps.refl : Keeps P s s := .of_same rfl rfl rfl

/-! ### The named updates -/

section Updates

variable (s : State)

theorem Keeps.setPhase (x : Phase) : Keeps P s (s.setPhase x) := .of_same rfl rfl rfl
theorem Keeps.setCp (x : Cp) : Keeps P s (s.setCp x) := .of_same rfl rfl rfl
theorem Keeps.setMp (x : Mp) : Keeps P s (s.setMp x) := .of_same rfl rfl rfl
theorem Keeps.setSr (x : Sr) : Keeps P s (s.setSr x) := .of_same rfl rfl rfl
theorem Keeps.setCvu (x : Cvu) : Keeps P s (s.setCvu x) := .of_same rfl rfl rfl
theorem Keeps.setMgp (x : Mgp) : Keeps P s (s.setMgp x) := .of_same rfl rfl rfl
theorem Keeps.setAu (x : Au) : Keeps P s (s.setAu x) := .of_same rfl rfl rfl
theorem Keeps.setOut (x : List Output) : Keeps P s (s.setOut x) := .of_same rfl rfl rfl
theorem Keeps.setPending (x : List Instr) : Keeps P s (s.setPending x) := .of_same rfl rfl rfl

/-- SE with the open granule as it is. -/
theorem Keeps.setSe (x : Se) (h : x.opened.map (·.granule) = s.openAt) : Keeps P s (s.setSe x) :=
  .of_same (by simp [State.ground, State.openAt, h]) rfl rfl

/-- ST with the TXQ as it is. -/
theorem Keeps.setSt (x : St) (h : x.txq = s.st.txq) : Keeps P s (s.setSt x) :=
  .of_same (by simp [State.ground, State.openAt, h]) rfl rfl

/-- GM with the map, the census, the local fences and the lock as they are. -/
theorem Keeps.setGm (x : Gm) (hm : x.map = s.gm.map) (hc : x.census = s.gm.census) (hf : x.localFences = s.gm.localFences)
    (hl : x.lock = s.gm.lock) : Keeps P s (s.setGm x) :=
  .of_same (by simp [State.ground, State.openAt, hm, hc, hf, hl]) rfl rfl

/-- SC with the role, the span, the session state and RELEASE_PENDING as they are. -/
theorem Keeps.setSc (x : Sc) (hr : x.role = s.sc.role) (hs : x.params.span = s.sc.params.span) (hst : x.state = s.sc.state)
    (hrp : x.releasePending = s.sc.releasePending) : Keeps P s (s.setSc x) :=
  .of_same (by simp [State.ground, State.openAt, hr, hs]) hst hrp

/-- SC moves to a state in which SE works: an open granule stays one that SE works on. -/
theorem Keeps.setSc_working (x : Sc) (hr : x.role = s.sc.role) (hs : x.params.span = s.sc.params.span)
    (hst : x.state = .sweep ∨ x.state = .rinse ∨ x.state = .cutover) (hrp : x.releasePending = s.sc.releasePending) :
    Keeps P s (s.setSc x) := by
  refine Steady.keeps (.of_ground (by simp [State.ground, State.openAt, hr, hs]) fun _ hw => ?_) ?_
  · have hsrc : s.sc.role = .source := by
      by_contra hne
      simp [State.sweeping, State.sending, State.sourceIn, hne] at hw
    cases hp : s.sc.releasePending <;> rcases hst with h | h | h <;>
      simp [State.sweeping, State.sending, State.sourceIn, hr, hsrc, hrp, hp, h]
  · rcases hst with h | h | h <;> simp [State.sourceIn, h]

/-- SE with no granule open. -/
theorem Keeps.setSe_closed (x : Se) (h : x.opened = none) : Keeps P s (s.setSe x) := by
  have ho : (s.setSe x).openAt = none := by simp [State.openAt, h]
  have hopen : OpenLevel s → OpenLevel (s.setSe x) := fun ⟨hc, _⟩ => ⟨hc, by simp [ho], by simp [ho]⟩
  refine ⟨⟨rfl, rfl, id, fun g hg => .inl hg, fun q a m d hx => .inl hx, id, hopen⟩, fun hs => ?_⟩
  obtain ⟨h1, h2⟩ := (shadowLevel_iff s).1 hs
  exact (shadowLevel_iff _).2 ⟨hopen h1, fun hx => ⟨(h2 hx).1, ho⟩⟩

/-- A part with no granule open may leave its session. -/
theorem Keeps.setSc_closed (x : Sc) (ho : s.openAt = none) (hr : x.role = s.sc.role)
    (hs : x.params.span = s.sc.params.span) (hst : x.state ≠ .shadow) : Keeps P s (s.setSc x) :=
  Steady.keeps (.of_ground (by simp [State.ground, State.openAt, hr, hs]) fun hn => absurd ho hn) (by simp [State.sourceIn, hst])

end Updates

end Sys2Proof.Machine

namespace Sys2Proof.Machine

open Sys2Proof

variable {P : Nat → Prop} (s : State)

/-! ### Flags, outputs and the request table -/

theorem Keeps.raise (a : Alert) : Keeps P s (s.raise a) := .setAu s _
theorem Keeps.raiseIf (c : Bool) (a : Alert) : Keeps P s (s.raiseIf c a) := by
  rw [State.raiseIf_eq]
  exact .setAu s _
theorem Keeps.count (c : Counter) : Keeps P s (s.count c) := .setMgp s _
theorem Keeps.capture (k : EventKind) (g : Option Nat) (d : Detail) : Keeps P s (s.capture k g d) := .setMgp s _
theorem Keeps.emit (o : Output) : Keeps P s (s.emit o) := .setOut s _
theorem Keeps.takeRecord (tag : Nat) : Keeps P s (s.takeRecord tag) := .setMp s _
theorem Keeps.dropOwn : Keeps P s s.dropOwn := .setMp s _
theorem Keeps.returnCredit : Keeps P s s.returnCredit := .after (.emit _ _) (.setCp _ _)
theorem Keeps.grantRecord (r : MemRecord) (q : MemRequest) : Keeps P s (s.grantRecord r q) :=
  .after (.emit _ _) (.setMp _ _)
theorem Keeps.finish (g e : Bool) (c : ResultCode) (data : List Byte) : Keeps P s (s.finish g e c data) := .setMgp s _

/-! ### The TXQ -/

/-- ST with a TXQ that holds no new MIRROR but those `P` allows. -/
theorem Keeps.setSt_txq (x : St) (h : ∀ q a m d, .frame (.mirror q a m d) ∈ x.txq →
    .frame (.mirror q a m d) ∈ s.st.txq ∨ P (granuleOf a.toNat)) : Keeps P s (s.setSt x) :=
  ⟨⟨rfl, rfl, id, fun _ hg => .inl hg, h, id, id⟩, id⟩

/-- An append of an entry that is no MIRROR, or one that `P` allows. -/
theorem Keeps.appendTx (e : TxEntry) (h : ∀ q a m d, e = .frame (.mirror q a m d) → P (granuleOf a.toNat)) :
    Keeps P s (s.appendTx e) := by
  refine (Keeps.setSt_txq s _ fun q a m d hx => ?_).trans (.raiseIf _ _ _)
  rcases List.mem_append.1 hx with hx | hx
  · exact .inl hx
  · exact .inr (h q a m d (List.mem_singleton.1 hx).symm)

/-! ### The ends of a session -/

/-- A SOURCE leaves its session: its open granule goes with it (R81, R135, R146). -/
theorem Keeps.endSource (x : SessionState) (hx : x ≠ .shadow) : Keeps P s (s.endSource x) :=
  .after (.setSc_closed _ _ rfl rfl rfl hx) <| .after (.setSr _ _) <|
    .after (.setSt_txq _ _ fun _ _ _ _ h => absurd h List.not_mem_nil) <| .after (.setSe_closed _ _ rfl) <|
      .after (.setCp _ _) (.dropOwn s)

theorem Keeps.flushSource (x : SessionState) (hx : x ≠ .shadow) : Keeps P s (s.flushSource x) :=
  (Keeps.endSource s x hx).trans (.setSt _ _ rfl)
theorem Keeps.setFault (r : FaultReason) : Keeps P s (s.setFault r) := .setSc s _ rfl rfl rfl rfl
theorem Keeps.sourceLinkLoss (r : FaultReason) : Keeps P s (s.sourceLinkLoss r) :=
  .after (.raise _ _) <| .after (.raise _ _) <| .after (.setFault _ _) (.flushSource s .fault (by simp))
theorem Keeps.handshakeLoss : Keeps P s s.handshakeLoss :=
  .after (.setSc _ _ rfl rfl rfl rfl) <| .after (.raise _ _) <| .after (.setFault _ _) (.flushSource s .fault (by simp))
theorem Keeps.detachComplete : Keeps P s s.detachComplete := .endSource s .idle (by simp)

/-! ### Marks -/

theorem Keeps.dropMark (k : MarkKind) : Keeps P s (s.dropMark k) := by
  have h : Keeps P s ((s.count .discarded).capture .discard none (.markKind k.code)) :=
    .after (.capture _ _ _ _) (.count _ _)
  exact .ite (.after (.detachComplete _) h) h

theorem Keeps.appendMark (k : MarkKind) : Keeps P s (s.appendMark k) := by
  unfold State.appendMark
  exact .ite (.appendTx s _ (by simp)) (.ite (.setSt s _ rfl) (.dropMark s k))

theorem Keeps.appendPending : Keeps P s s.appendPending := by
  unfold State.appendPending
  split
  · exact .refl
  · exact .after (.appendTx _ _ (by simp)) (.setSt s _ rfl)

/-- The data of a line goes into a slot: every frame of the TXQ stands (R66). -/
theorem frame_mem_fillSlot {o : Byte} {i : BitVec 10} {p : Bool} {data : LineData} {f : Frame} {q : List TxEntry}
    (h : .frame f ∈ fillSlot o i p data q) : .frame f ∈ q := by
  induction q with
  | nil => exact h
  | cons e rest ih =>
    unfold fillSlot at h
    split at h
    · cases h
    · rename_i heq
      cases heq
      split at h <;> simp_all
    · rename_i heq
      cases heq
      exact List.mem_cons.2 ((List.mem_cons.1 h).imp id ih)

/-! ### Passes -/

theorem Keeps.zeroCounts : Keeps P s s.zeroCounts := .setGm s _ rfl rfl rfl rfl
theorem Keeps.dropNext : Keeps P s s.dropNext := .setGm s _ rfl rfl rfl rfl
theorem Keeps.startRinse : Keeps P s s.startRinse := .after (.zeroCounts _) (.setSe s _ rfl)
theorem Keeps.rinseOrWait : Keeps P s s.rinseOrWait := by
  unfold State.rinseOrWait
  exact .ite (.startRinse s) (.setSe s _ rfl)
theorem Keeps.finishScan : Keeps P s s.finishScan := .after (.appendMark _ _) (.setSe s _ rfl)
theorem Keeps.startScan : Keeps P s s.startScan := by
  unfold State.startScan
  extract_lets _ u
  have h : Keeps P s u := .setSe s _ rfl
  exact .ite (.after (.finishScan _) h) h

/-- CUTOVER is entered from a state in which SE works, or in which it has stopped for good. -/
theorem Keeps.enterCutover : Keeps P s s.enterCutover :=
  .after (.startScan _) <| .after (.appendMark _ _) <| .after (.setSc_working _ _ rfl rfl (.inr (.inr rfl)) rfl) <|
    .after (.setCp _ _) (.setCvu s _)

theorem Keeps.setState_rinse : Keeps P s (s.setState .rinse) := .setSc_working s _ rfl rfl (.inr (.inl rfl)) rfl

theorem Keeps.cutoverTest (point : TestPoint) : Keeps P s (s.cutoverTest point) := .after (.raiseIf _ _ _) (.setCvu s _)

theorem Keeps.takePassEnd : Keeps P s s.takePassEnd :=
  .after (.raiseIf _ _ _) <| .after (.raiseIf _ _ _) <| .after (.setCvu _ _) (.setGm s _ rfl rfl rfl rfl)

theorem Keeps.passEnd : Keeps P s s.passEnd := by
  unfold State.passEnd
  extract_lets _ s1 s2 s3 s4 _ u
  have h : Keeps P s u := .after (.setSe _ _ rfl) <| .after (.raise _ _) <| .after (.takePassEnd _) <|
    .after (.appendMark _ _) (.setSe s _ rfl)
  exact .ite (.after (.setState_rinse _) <| .after (.setSe _ _ rfl) h) <|
    .ite (.after (.enterCutover _) h) (.after (.rinseOrWait _) <| .after (.setState_rinse _) h)

theorem Keeps.scanCheck : Keeps P s s.scanCheck := by
  unfold State.scanCheck
  refine .ite .refl ?_
  split
  · exact .ite (.passEnd s) .refl
  · exact .ite (.passEnd s) .refl
  · exact .ite (.finishScan s) (.ite (.setSe s _ rfl) .refl)
  · exact .refl

theorem Keeps.startPassZero : Keeps P s s.startPassZero :=
  .after (.scanCheck _) <| .after (.zeroCounts _) <| .after (.dropNext _) (.setSe s _ rfl)

/-! ### One granule moves -/

/-- The census of a map one entry of which has changed (R9). -/
theorem censusOf_set {m : List GranuleState} {i : Nat} {a : GranuleState} (b : GranuleState) (h : m[i]? = some a) :
    censusOf (m.set i b) = ((censusOf m).lower a).lift b := by
  obtain ⟨hi, rfl⟩ := List.getElem?_eq_some_iff.1 h
  simp only [censusOf, List.count_set hi]
  cases hm : m[i] <;> cases b <;> simp [Census.lower, Census.lift]

/-- The entries of a map one entry of which has changed. -/
theorem entry_move {i : Nat} {a : GranuleState} (b : GranuleState) (h : s.entry i = some a) (x : Gm)
    (hm : x.map = (s.gm.move i a b).map) (g : Nat) : (s.setGm x).entry g = if i = g then some b else s.entry g := by
  unfold State.entry at h ⊢
  simp only [State.setGm_gm, hm, Gm.move]
  cases hmap : s.gm.map with
  | none => simp [hmap] at h
  | some m =>
    simp only [hmap] at h
    simp only [Option.map_some, List.getElem?_set]
    split
    · rename_i heq
      rw [if_pos (List.getElem?_eq_some_iff.1 h).1]
    · rfl

/-- A granule moves from a state that is not EXCLUDED, with the census: to DIRTY, or with no granule open (R7, R9). -/
theorem Steady.move {i : Nat} {a b : GranuleState} (h : s.entry i = some a) (ha : a ≠ .excluded) (x : Gm)
    (hm : x.map = (s.gm.move i a b).map) (hc : x.census = (s.gm.move i a b).census)
    (hf : x.localFences = s.gm.localFences) (hl : x.lock = s.gm.lock) (hb : b = .dirty ∨ s.openAt = none) :
    Steady P s (s.setGm x) := by
  have hcensus : CensusLevel s → CensusLevel (s.setGm x) := by
    unfold CensusLevel
    simp only [State.setGm_gm, State.setGm_sc, hm, hc, Gm.move]
    unfold State.entry at h
    cases hmap : s.gm.map with
    | none => simp [hmap] at h
    | some m =>
      simp only [hmap] at h
      simp only [Option.map_some, List.length_set]
      rintro ⟨hlen, hcen⟩
      exact ⟨hlen, by rw [hcen, censusOf_set b h]⟩
  refine ⟨hf, hl, fun h0 => ?_, fun g hg => .inl ?_, fun q a m d hx => .inl hx, hcensus, fun ⟨h1, h2, h3⟩ => ?_⟩
  · simp [hm, Gm.move, h0]
  · rw [entry_move s b h x hm, if_neg (fun heq => ha ?_)]
    · exact hg
    · rw [heq, hg] at h
      exact (Option.some.inj h).symm
  · refine ⟨hcensus h1, fun g hg => ?_, h3⟩
    rw [entry_move s b h x hm]
    rcases hb with rfl | hb
    · split
      · exact .inr rfl
      · exact h2 g hg
    · exact absurd (hb.symm.trans hg) (by simp)

theorem Keeps.wake : Keeps P s s.wake := by
  unfold State.wake
  exact .ite (.startRinse s) .refl

/-- What SYNC_LOST leaves of the state of the session (R174). -/
theorem State.syncLost_state : s.syncLost.sc.state = .rinse := rfl

theorem Keeps.syncLost : Keeps P s s.syncLost :=
  .after (.startRinse _) <| .after (.dropNext _) <| .after (.setCvu _ _) <| .after (.raise _ _) <|
    .after (.setState_rinse _) (.appendMark s _)

/-- A COPIED granule becomes DIRTY; a SOURCE in SHADOW leaves SHADOW by it (R7, R18, R174). -/
theorem Keeps.dirty {g : Nat} (h : s.entry g = some .copied) : Keeps P s (s.dirty g) := by
  have hmove : Steady P s (s.setGm (s.gm.dirtied g s.se.betweenPasses)) :=
    .move s h (by simp) (b := .dirty) _ (by rw [Gm.dirtied_eq]; rfl) (by rw [Gm.dirtied_eq]; rfl)
      (by rw [Gm.dirtied_eq]) (by rw [Gm.dirtied_eq]) (.inl rfl)
  have hwake : Steady P s (if s.d = 0 then (s.setGm (s.gm.dirtied g s.se.betweenPasses)).wake
      else s.setGm (s.gm.dirtied g s.se.betweenPasses)) := by
    split
    · exact hmove.trans (Keeps.wake _).toSteady
    · exact hmove
  have hsc : (if s.d = 0 then (s.setGm (s.gm.dirtied g s.se.betweenPasses)).wake
      else s.setGm (s.gm.dirtied g s.se.betweenPasses)).sc = s.sc := by
    split
    · unfold State.wake
      split <;> rfl
    · rfl
  unfold State.dirty
  cases hs : s.sourceIn .shadow with
  | true => exact Steady.keeps (hwake.trans (Keeps.syncLost _).toSteady) (by simp [State.sourceIn, State.syncLost_state])
  | false => exact Steady.keeps hwake (by simpa only [State.sourceIn, Bool.false_eq_true, if_false, hsc] using hs)

theorem Keeps.markStale : Keeps P s s.markStale :=
  .setSe s _ (by cases h : s.se.opened <;> simp [State.openAt, h])

theorem Keeps.markDirty (g : Nat) : Keeps P s (s.markDirty g) := by
  obtain ⟨ho, h⟩ | ⟨-, h⟩ | ⟨-, -, h⟩ := s.markDirty_cases g
  · rw [h]
    exact .dirty s (s.markOutcome_dirtied ho).1
  · rw [h]
    exact .markStale s
  · rw [h]
    exact .refl

/-! ### Visits and closes -/

/-- A visit opens a granule that is UNCOPIED or DIRTY while SE works (R62, R64). -/
theorem Keeps.openGranule {g : Nat} (hw : s.sweeping = true) (hg : s.entry g = some .uncopied ∨ s.entry g = some .dirty) :
    Keeps P s (s.openGranule g) := by
  refine Keeps.trans (t := s.setSe { s.se with opened := some ⟨g, s.se.openNo, 0, 0, false, 0⟩, openNo := s.se.openNo + 1 })
    (Steady.keeps ⟨rfl, rfl, id, fun _ hx => .inl hx, fun _ _ _ _ hx => .inl hx, id, fun ⟨h1, _, _⟩ => ⟨h1, ?_, ?_⟩⟩ ?_)
    (.appendTx _ _ (by simp))
  · intro g' hg'
    cases hg'
    exact hg
  · exact fun _ => .inl hw
  · cases hst : s.sc.state <;> simp_all [State.sweeping, State.sourceIn]

theorem Keeps.stepVisit : Keeps P s s.stepVisit := by
  unfold State.stepVisit
  split <;> exact .setSe s _ rfl

theorem Keeps.visit : Keeps P s s.visit := by
  unfold State.visit
  split
  · rename_i hv
    split
    · rename_i g _
      have hw : s.stepVisit.sweeping = true := by
        have : s.sweeping = true := by
          simp only [State.mayVisit, Bool.and_eq_true] at hv
          exact hv.1.1.1.1
        unfold State.stepVisit
        split <;> exact this
      have he : s.stepVisit.entry g = s.entry g := by
        unfold State.stepVisit
        split <;> rfl
      unfold State.visitGranule
      refine (Keeps.stepVisit s).trans ?_
      split
      · exact .openGranule _ hw (.inl (he.trans ‹_›))
      · exact .openGranule _ hw (.inr (he.trans ‹_›))
      · exact .scanCheck _
    · exact .refl
  · exact .refl

/-- A close moves an entry that is UNCOPIED or DIRTY, or moves none (R6). -/
theorem Gm.close_cases (x : Gm) (i : Nat) (e : Option GranuleState) (stale : Bool) :
    (∃ a b nc, e = some a ∧ a ≠ .excluded ∧ x.close i e stale = { x.move i a b with nc := nc }) ∨ x.close i e stale = x := by
  unfold Gm.close
  split
  · exact .inl ⟨_, _, _, rfl, by simp, rfl⟩
  · exact .inl ⟨_, _, _, rfl, by simp, rfl⟩
  · exact .inl ⟨_, .dirty, x.nc, rfl, by simp, rfl⟩
  · exact .inr rfl

/-- The close of the open granule, taken while SE works (R6, R67). -/
theorem Keeps.closeGranule (r : OpenRecord) (hw : s.sweeping = true) : Keeps P s (s.closeGranule r) := by
  have hmove : ∀ u : State, u.sweeping = true → Keeps P u
      ((u.setSe { u.se with opened := none }).setGm (u.gm.close r.granule (u.entry r.granule) r.stale)) := by
    intro u hu
    refine (Keeps.setSe_closed u { u.se with opened := none } rfl).trans ?_
    obtain ⟨a, b, nc, he, ha, h⟩ | h := u.gm.close_cases r.granule (u.entry r.granule) r.stale
    · rw [h]
      refine Steady.keeps (.move (u.setSe { u.se with opened := none }) he ha (b := b) _ rfl rfl rfl rfl (.inr rfl)) ?_
      cases hst : u.sc.state <;> simp_all [State.sweeping, State.sourceIn]
    · rw [h]
      exact .setGm _ _ rfl rfl rfl rfl
  have hsweep : ∀ e, (s.appendTx e).sweeping = s.sweeping := by
    intro e
    rw [State.appendTx_eq]
    rfl
  exact .after (.scanCheck _) <| .after (hmove _ ((hsweep _).trans hw)) (.appendTx s _ (by simp))

theorem Keeps.closeIfDue : Keeps P s s.closeIfDue := by
  cases h : s.closeDue with
  | none =>
    rw [s.closeIfDue_none h]
    exact .refl
  | some r =>
    simp only [State.closeIfDue, h]
    exact .closeGranule s r (s.closeDue_some h).2.1

theorem Keeps.releaseHold : Keeps P s s.releaseHold := .after (.setSc _ _ rfl rfl rfl rfl) (.setCp s _)

theorem Keeps.holdExpired : Keeps P s s.holdExpired := by
  unfold State.holdExpired
  extract_lets s1 s2 _ s3 s4 u
  have h : Keeps P s u := .after (.raise _ _) <| .after (.rinseOrWait _) <| .after (.dropNext _) <|
    .after (.setState_rinse _) <| .after (.setSc _ _ rfl rfl rfl rfl) <| .after (.releaseHold _) (.appendMark s _)
  exact .ite (.after (.raise _ _) <| .after (.setCvu _ _) h) h

end Sys2Proof.Machine

namespace Sys2Proof.Machine

open Sys2Proof

variable {P : Nat → Prop} (s : State)

/-! ### Captured and failed writes -/

/-- WCU may make a MIRROR for a granule that it classifies so, and for no other (R43, R46). -/
theorem Keeps.captureNotice (a : LineAddr) (m : ByteMask) (data : LineData)
    (hP : ∀ g, s.classify g = .mirror → P g) : Keeps P s (s.captureNotice a m data) := by
  unfold State.captureNotice
  refine .ite ?_ .refl
  have degrade : Keeps P s (s.degrade a) :=
    .after (.capture _ _ _ _) <| .after (.count _ _) (.markDirty s _)
  split
  · exact .refl
  · exact .refl
  · rename_i hc
    refine .ite (.after (.setSt _ _ rfl) (.appendTx s _ fun q a' m' d he => ?_)) degrade
    cases he
    rw [BitVec.toNat_setWidth_of_le (by decide)]
    exact hP _ hc

theorem Keeps.failureNotice (a : LineAddr) : Keeps P s (s.failureNotice a) := by
  unfold State.failureNotice
  exact .ite (.after (.capture _ _ _ _) (.markDirty s _)) .refl

/-! ### The receiver -/

section Ground

@[simp] theorem ground_setMp (x : Mp) : (s.setMp x).ground = s.ground := rfl
@[simp] theorem ground_setSr (x : Sr) : (s.setSr x).ground = s.ground := rfl
@[simp] theorem ground_setMgp (x : Mgp) : (s.setMgp x).ground = s.ground := rfl
@[simp] theorem ground_setAu (x : Au) : (s.setAu x).ground = s.ground := rfl
@[simp] theorem ground_setOut (x : List Output) : (s.setOut x).ground = s.ground := rfl
@[simp] theorem ground_emit (o : Output) : (s.emit o).ground = s.ground := rfl
@[simp] theorem ground_count (c : Counter) : (s.count c).ground = s.ground := rfl
@[simp] theorem ground_capture (k : EventKind) (g : Option Nat) (d : Detail) : (s.capture k g d).ground = s.ground := rfl
@[simp] theorem ground_raise (a : Alert) : (s.raise a).ground = s.ground := rfl
@[simp] theorem ground_setState (x : SessionState) : (s.setState x).ground = s.ground := rfl
@[simp] theorem ground_setLatch (x : Option Latch) : (s.setLatch x).ground = s.ground := rfl
@[simp] theorem ground_appendReturn (f : Frame) : (s.appendReturn f).ground = s.ground := rfl
@[simp] theorem ground_raiseFreed : s.raiseFreed.ground = s.ground := rfl
@[simp] theorem ground_discard (f : Frame) : (s.discard f).ground = s.ground := rfl
@[simp] theorem ground_endTarget : s.endTarget.ground = s.ground := rfl
@[simp] theorem ground_takeoverComplete : s.takeoverComplete.ground = s.ground := rfl
@[simp] theorem ground_targetFault (r : FaultReason) : (s.targetFault r).ground = s.ground := rfl

/-- SC with the role and the span as they are. -/
theorem ground_setSc (x : Sc) (hr : x.role = s.sc.role) (hs : x.params.span = s.sc.params.span) :
    (s.setSc x).ground = s.ground := by
  simp [State.ground, State.openAt, hr, hs]

@[simp] theorem ground_freeSlot : s.freeSlot.ground = s.ground := by
  unfold State.freeSlot
  split <;> rfl
@[simp] theorem ground_returnToFilling : s.returnToFilling.ground = s.ground := by
  unfold State.returnToFilling
  split <;> rfl
@[simp] theorem ground_clearClean : s.clearClean.ground = s.ground := by
  unfold State.clearClean
  split <;> simp
@[simp] theorem ground_discardTarget (f : Frame) : (s.discardTarget f).ground = s.ground := by simp [State.discardTarget]
@[simp] theorem ground_protect (g a : Nat) : (s.protect g a).ground = s.ground := by simp [State.protect]
@[simp] theorem ground_decideNeed (g : Nat) : (s.decideNeed g).ground = s.ground := by
  unfold State.decideNeed
  split <;> simp
@[simp] theorem ground_decideNeedFor (g : Option Nat) : (s.decideNeedFor g).ground = s.ground := by
  cases g <;> simp [State.decideNeedFor]
@[simp] theorem ground_decideLoss (e : BitVec 16) (g : Nat) : (s.decideLoss e g).ground = s.ground := by
  unfold State.decideLoss
  split <;> simp
@[simp] theorem ground_leaveHead : s.leaveHead.ground = s.ground := by simp [State.leaveHead]
@[simp] theorem ground_headBecomes (as : List Answer) (w : Option ApplyWrite) : (s.headBecomes as w).ground = s.ground := by
  unfold State.headBecomes
  split <;> simp
@[simp] theorem ground_answered : s.answered.ground = s.ground := by
  unfold State.answered
  split <;> simp
@[simp] theorem ground_settleLatch : s.settleLatch.ground = s.ground := by simp [State.settleLatch]
@[simp] theorem ground_releaseTaken : s.releaseTaken.ground = s.ground := by
  unfold State.releaseTaken
  split
  · rfl
  · split <;> rfl

/-- Processing the head of the receive buffer (R108). -/
@[simp] theorem ground_processHead (f : Frame) : (s.processHead f).ground = s.ground := by
  cases f with
  | line o p i d =>
    simp only [State.processHead, State.processLine]
    split
    · split
      · split <;> simp
      · simp
    · simp
  | mirror q a m d =>
    have judge : ∀ (u : State) answers, (u.judgeMirror (.mirror q a m d) q a m d answers).ground = u.ground := by
      intro u answers
      unfold State.judgeMirror
      dsimp only
      split
      · simp
      · split <;> simp
    simp only [State.processHead, State.processMirror]
    split
    · simp
    · split <;> simp [judge]
  | opening g o =>
    simp only [State.processHead, State.processOpen]
    split
    · split <;> simp
    · simp
  | mark n k =>
    simp only [State.processHead, State.processMark]
    split
    · split
      · simp
      · cases k with
        | cutoverEnd => simp only; split <;> simp
        | _ => simp
    · simp
  | _ => simp only [State.processHead, State.processClose]; split <;> simp

/-- Placing a claim on the return list (R117). -/
@[simp] theorem ground_appendClaim (c : Claim) : (s.appendClaim c).ground = s.ground := by
  cases c with
  | answer a =>
    cases a with
    | ready =>
      simp only [State.appendClaim, State.appendAnswer, State.appendReady, ground_answered]
      split <;> simp
    | _ => simp [State.appendClaim, State.appendAnswer]
  | _ => rfl

@[simp] theorem ground_pump : s.pump.ground = s.ground := by
  have key : ∀ (n : Nat) (u : State), (State.pumpFor n u).ground = u.ground := by
    intro n
    induction n with
    | zero => exact fun _ => rfl
    | succ n ih =>
      intro u
      unfold State.pumpFor
      split
      · simp [ih]
      · split <;> simp [ih]
  exact key _ s

@[simp] theorem ground_applyGranted (a : ApplyWrite) : (s.applyGranted a).ground = s.ground := by
  unfold State.applyGranted
  dsimp only
  split <;> simp

end Ground

/-! ### The ports -/

theorem Keeps.judgeHead : Keeps P s s.judgeHead := by
  obtain ⟨-, -, hgm, hse, hst, -, hsc, -⟩ := State.judgeFor_frame s.cp.queue.length s
  exact .of_same (by simp [State.judgeHead, State.ground, State.openAt, hgm, hse, hst, hsc])
    (congrArg Sc.state hsc) (congrArg Sc.releasePending hsc)

theorem Keeps.arrive (r : ClientRequest) : Keeps P s (s.arrive r) := by
  unfold State.arrive
  exact .ite (.count s _) <| .ite (.after (.count _ _) <| .after (.returnCredit _) (.setCp s _))
    (.after (.judgeHead _) (.setCp s _))

theorem Keeps.noticeGrant (r : ClientRequest) (hP : ∀ g, s.classify g = .mirror → P g) : Keeps P s (s.noticeGrant r) := by
  cases r with
  | read t a => exact .refl
  | write t a m d => exact .captureNotice s a m d hP

theorem Keeps.grantClient (r : ClientRequest) (hP : ∀ g, s.classify g = .mirror → P g) : Keeps P s (s.grantClient r) :=
  .after (.judgeHead _) <| .after (.noticeGrant _ _ hP) <| .after (.grantRecord _ _ _) <|
    .after (.returnCredit _) (.setCp s _)

theorem Keeps.grantSweep (t g : Nat) (o : Byte) (i : Nat) : Keeps P s (s.grantSweep t g o i) := by
  have hopen : ∀ u : State, Keeps P u
      (u.setSe { u.se with opened := u.se.opened.map fun r => { r with nextLine := r.nextLine + 1 } }) := fun u =>
    .setSe u _ (by cases h : u.se.opened <;> simp [State.openAt, h])
  exact .after (.closeIfDue _) <| .after (hopen _) <| .after (.appendTx _ _ (by simp)) (.grantRecord s _ _)

theorem Keeps.grantApply (hr : s.sc.role ≠ .source) (t : Nat) (a : ApplyWrite) : Keeps P s (s.grantApply t a) :=
  .of_receiver hr (by simp [State.grantApply, State.grantRecord])

/-- An apply write is on offer on a TARGET alone (R32). -/
theorem State.ownReady_apply {t : Nat} {a : ApplyWrite} (h : s.ownReady = some (t, .apply a)) : s.sc.role = .target := by
  have ho := (s.ownReady_some h).2
  unfold State.ownOffer at ho
  split at ho
  · unfold State.offeredRead at ho
    split at ho
    · split at ho <;> cases ho
    · cases ho
  · assumption
  · cases ho

theorem Keeps.grantOwn {t : Nat} {o : OwnOffer} (u : State) (hu : u.sc.role = s.sc.role) (h : s.ownReady = some (t, o)) :
    Keeps P u (u.grantOwn t o) := by
  cases o with
  | sweep g n i => exact .grantSweep u t g n i
  | apply a => exact .grantApply u (by rw [hu, s.ownReady_apply h]; simp) t a

theorem Keeps.arbitrate (hP : ∀ g, s.classify g = .mirror → P g) : Keeps P s s.arbitrate := by
  unfold State.arbitrate
  refine .ite .refl ?_
  split
  · rename_i h
    refine .ite (.ite ?_ ?_) (.grantOwn s s rfl h)
    · exact .after (.grantOwn s _ rfl h) (.setMp s _)
    · exact .after (.grantClient _ _ hP) (.setMp s _)
  · exact .ite (.grantClient s _ hP) .refl
  · exact .grantOwn s s rfl ‹_›
  · exact .refl

theorem Keeps.clientResponse (r : MemRecord) (q : MemResponse) : Keeps P s (s.clientResponse r q) := by
  unfold State.clientResponse
  dsimp only
  split
  · exact .after (.failureNotice _ _) (.emit s _)
  · exact .emit s _

theorem Keeps.fillLine (a : LineAddr) (o : Byte) (i : BitVec 10) (data : LineData) (poison : Bool) :
    Keeps P s (s.fillLine a o i data poison) := by
  have hopen : ∀ u : State, Keeps P u
      (u.setSe { u.se with opened := u.se.opened.map fun r => r.lineReturned o (granuleOf a.toNat) poison }) := fun u =>
    .setSe u _ (by cases h : u.se.opened <;> simp [State.openAt, h, OpenRecord.lineReturned, apply_ite])
  have h := (hopen _).after (.setSt_txq s { s.st with txq := fillSlot o i poison data s.st.txq }
    fun _ _ _ _ hx => .inl (frame_mem_fillSlot hx))
  exact .ite (.after (.capture _ _ _ _) <| .after (.count _ _) h) h

/-- The part that takes the copy stream is a TARGET. -/
theorem State.receiving_role (h : s.receiving = true) : s.sc.role = .target := by
  simp only [State.receiving, State.targetIn, Bool.or_eq_true, Bool.and_eq_true, beq_iff_eq] at h
  exact h.elim And.left And.left

/-- What only a TARGET in FILLING or SHADOW does. -/
theorem Keeps.of_receiving (hr : s.receiving = true) {u : State} (h : u.ground = s.ground) : Keeps P s u :=
  .of_receiver (by rw [s.receiving_role hr]; simp) h

theorem Keeps.applyDone (g : Nat) (a : LineAddr) (fail : Bool) : Keeps P s (s.applyDone g a fail) := by
  unfold State.applyDone
  extract_lets s1 s2
  refine .ite ?_ .refl
  split
  · exact .of_receiving s ‹_› (by simp [s1, s2])
  · exact .capture s _ _ _

theorem Keeps.route (r : MemRecord) (q : MemResponse) : Keeps P s (s.route r q) := by
  unfold State.route
  split
  · exact .clientResponse s _ _
  · exact .fillLine s _ _ _ _ _
  · exact .applyDone s _ _ _
  · exact .refl

theorem Keeps.respond (q : MemResponse) : Keeps P s (s.respond q) := by
  unfold State.respond
  split
  · exact .ite (.after (.route _ _ _) (.takeRecord s _)) (.count s _)
  · exact .count s _

end Sys2Proof.Machine

namespace Sys2Proof.Machine

open Sys2Proof

variable {P : Nat → Prop} (s : State)

/-! ### The transmitter -/

theorem Keeps.sendFrame (f : Frame) : Keeps P s (s.sendFrame f) := .after (.emit _ _) (.setSt s _ rfl)

theorem Keeps.afterSend (f : Frame) : Keeps P s (s.afterSend f) := by
  unfold State.afterSend
  split
  · exact .setSt s _ rfl
  · exact .ite (.setSc s _ rfl rfl rfl rfl) .refl
  · exact .detachComplete s
  · exact .refl

theorem Keeps.sendHead (f : Frame) : Keeps P s (s.sendHead f) := by
  have hpop : Keeps P s (s.setSt { s.st with
      txq := s.st.txq.tail, sendCredits := s.st.sendCredits - 1, keepDue := false }) :=
    .setSt_txq s _ fun _ _ _ _ hx => .inl (List.mem_of_mem_tail hx)
  exact .after (.closeIfDue _) <| .after (.afterSend _ _) <| .after (.appendPending _) <| .after (.sendFrame _ _) hpop

theorem Keeps.sendKeep : Keeps P s s.sendKeep := .after (.sendFrame _ _) (.setSt s _ rfl)

theorem Keeps.transmit : Keeps P s s.transmit := by
  unfold State.transmit
  refine .ite ?_ .refl
  split
  · exact .sendHead s _
  · exact .ite (.sendKeep s) .refl

theorem Keeps.keepaliveSource (ready : Bool) : Keeps P s (s.keepaliveSource ready) :=
  .ite (.sendKeep s) (.setSt s _ rfl)

/-! ### The answers of the TARGET -/

theorem Keeps.streamDirty (g : Nat) : Keeps P s (s.streamDirty g) := .ite .refl (.markDirty s g)

theorem Keeps.takeNeed (g : Nat) : Keeps P s (s.takeNeed g) := by
  have h : Keeps P s ((s.count .needs).streamDirty g) := .after (.streamDirty _ _) (.count s _)
  exact .after (.capture _ _ _ _) (.ite (.after (.count _ _) h) h)

theorem Keeps.dirtyRecords (rs : List MirrorRecord) : Keeps P s (s.dirtyRecords rs) := by
  induction rs generalizing s with
  | nil => exact .refl
  | cons r rs ih => exact .after (ih _) (.streamDirty s _)

theorem Keeps.takeLoss (e d : BitVec 16) : Keeps P s (s.takeLoss e d) :=
  .after (.capture _ _ _ _) <| .after (.dirtyRecords _ _) (.ite (.after (.count _ _) (.count s _)) (.count s _))

theorem Keeps.settle : Keeps P s s.settle := by
  unfold State.settle
  split
  · exact .refl
  · exact .after (.capture _ _ _ _) <| .after (.count _ _) <| .after (.dirtyRecords _ _) (.setSt s _ rfl)

theorem Keeps.takeCredit (n : Nat) (a : BitVec 16) : Keeps P s (s.takeCredit n a) := by
  unfold State.takeCredit
  extract_lets sum _ s1 s2 _ s3
  have h1 : Keeps P s s1 := .setSt s _ rfl
  have h2 : Keeps P s s2 := .ite (.after (.count _ _) h1) h1
  have h3 : Keeps P s s3 := .after (.setSt _ _ rfl) h2
  exact .ite (.after (.count _ _) h2) (.ite (.after (.settle _) h3) h3)

/-! ### Frames at a TARGET -/

theorem Keeps.lostFrame (len : Nat) : Keeps P s (s.lostFrame len) := by
  unfold State.lostFrame
  split
  · exact .ite .refl (.of_receiving s ‹_› (by simp))
  · exact .ite (.sourceLinkLoss s _) .refl

theorem Keeps.discard (f : Frame) : Keeps P s (s.discard f) := .after (.capture _ _ _ _) (.count s _)

theorem Keeps.crcFailed (bs : List Byte) : Keeps P s (s.crcFailed bs) :=
  .after (.lostFrame _ _) <| .after (.capture _ _ _ _) (.count s _)

theorem Keeps.malformed (bs : List Byte) : Keeps P s (s.malformed bs) :=
  .after (.lostFrame _ _) <| .after (.capture _ _ _ _) (.count s _)

theorem Keeps.restartSilent : Keeps P s s.restartSilent := .ite (.setSr s _) .refl

@[simp] theorem ground_targetFrame (f : Frame) : (s.targetFrame f).ground = s.ground := by
  have enter : (s.enterBuffer f).ground = s.ground := by
    unfold State.enterBuffer State.bufferOverflow
    split <;> simp
  unfold State.targetFrame
  split
  · rfl
  · split
    · exact enter
    · exact enter
    · split
      · unfold State.helloInListen
        split
        · simp
        · split <;> rfl
      · rfl
    · split
      · unfold State.helloInFault
        dsimp only
        split <;> rfl
      · rfl
    · rfl

/-! ### Frames at a SOURCE -/

theorem State.countBadFences_frame (fs : List WireFence) : (s.countBadFences fs).gm = s.gm ∧
    (s.countBadFences fs).se = s.se ∧ (s.countBadFences fs).st = s.st ∧ (s.countBadFences fs).sc = s.sc := by
  induction fs generalizing s with
  | nil => simp [State.countBadFences]
  | cons f fs ih =>
    unfold State.countBadFences
    obtain ⟨h1, h2, h3, h4⟩ := ih (if f.judged.isNone then s.count .protocol else s)
    rw [h1, h2, h3, h4]
    split <;> simp [State.count_eq]

theorem Keeps.countBadFences (fs : List WireFence) : Keeps P s (s.countBadFences fs) := by
  obtain ⟨hgm, hse, hst, hsc⟩ := s.countBadFences_frame fs
  exact .of_same (by simp [State.ground, State.openAt, hgm, hse, hst, hsc]) (by rw [hsc]) (by rw [hsc])

/-- No granule is open in HANDSHAKE (R5). -/
theorem OpenLevel.closed_in_handshake (h : OpenLevel s) (hs : s.sc.state = .handshake) : s.openAt = none := by
  by_contra hn
  have := h.2.2 hn
  simp [State.sweeping, State.sending, State.sourceIn, hs] at this

/-- MERGE excludes granules and takes the census anew (R14). -/
theorem Keeps.merge (hs : s.sc.state = .handshake) : Keeps P s (s.setGm (s.gm.merge s.sc.params.span)) := by
  unfold Gm.merge
  cases hm : s.gm.map with
  | none => exact .setGm s _ rfl rfl rfl rfl
  | some m =>
    refine Steady.keeps ⟨rfl, rfl, fun h => by simp [hm] at h, fun g hg => .inl ?_, fun _ _ _ _ hx => .inl hx,
      fun hc => ?_, fun h => ?_⟩ (by simp [State.sourceIn, hs])
    · simp only [State.entry, hm] at hg
      simp only [State.entry, State.setGm_gm, List.getElem?_mapIdx, hg, Option.map_some, ite_self]
    · simp only [CensusLevel, hm] at hc
      simpa [CensusLevel] using hc.1
    · have ho : s.openAt = none := h.closed_in_handshake s hs
      have ho' : (s.setGm { s.gm with
          map := some (m.mapIdx fun i e => if fencesCover s.sc.params.span s.gm.peerFences i then .excluded else e)
          census := censusOf
            (m.mapIdx fun i e => if fencesCover s.sc.params.span s.gm.peerFences i then .excluded else e) }).openAt = none := ho
      have hc := h.1
      simp only [CensusLevel, hm] at hc
      exact ⟨by simpa [CensusLevel] using hc.1, by simp [ho'], by simp [ho']⟩

theorem Keeps.loadPeer (fs : List WireFence) (hs : s.sc.state = .handshake) : Keeps P s (s.loadPeer fs) :=
  .after (.merge _ (by rw [(State.countBadFences_frame _ fs).2.2.2]; exact hs)) <|
    .after (.countBadFences _ _) (.setGm s _ rfl rfl rfl rfl)

theorem Keeps.takeReply (a : ReplyAnswer) (fs : List WireFence) (hs : s.sc.state = .handshake) :
    Keeps P s (s.takeReply a fs) := by
  have refused : ∀ a, Keeps P s (s.replyRefused a) := fun a =>
    .after (.endSource _ .idle (by simp)) (.setSc s _ rfl rfl rfl rfl)
  cases a with
  | accept =>
    exact .after (.startPassZero _) <| .after (.setSr _ _) <|
      .after (.setSc_working _ _ rfl rfl (.inl rfl) rfl) (.loadPeer s fs hs)
  | refuseSpan => exact refused _
  | refuseState => exact refused _

/-- A map whose entry for some granule is UNCOPIED or DIRTY has D above 0 (R9). -/
theorem CensusLevel.d_pos {g : Nat} (h : CensusLevel s) (hg : s.entry g = some .uncopied ∨ s.entry g = some .dirty) :
    0 < s.d := by
  unfold State.entry at hg
  cases hm : s.gm.map with
  | none => simp [hm] at hg
  | some m =>
    simp only [hm] at hg
    simp only [CensusLevel, hm] at h
    simp only [State.d, h.2, censusOf]
    rcases hg with hg | hg
    · have := List.count_pos_iff.2 (List.mem_of_getElem? hg)
      omega
    · have := List.count_pos_iff.2 (List.mem_of_getElem? hg)
      omega

/-- SHADOW is entered with D at 0, and with that no granule is open (R5, R9, R167, R173). -/
theorem Keeps.setState_shadow (hd : s.d = 0) : Keeps P s (s.setState .shadow) := by
  have hclosed : OpenLevel s → s.openAt = none := fun ⟨hc, hx, _⟩ => by
    cases ho : s.openAt with
    | none => rfl
    | some g => exact absurd (hc.d_pos s (hx g ho)) (by omega)
  have hopen : OpenLevel s → OpenLevel (s.setState .shadow) := fun h => by
    have ho : (s.setState .shadow).openAt = none := hclosed h
    exact ⟨h.1, by simp [ho], by simp [ho]⟩
  exact ⟨⟨rfl, rfl, id, fun g hg => .inl hg, fun _ _ _ _ hx => .inl hx, id, hopen⟩, fun h =>
    (shadowLevel_iff _).2 ⟨hopen ((shadowLevel_iff s).1 h).1, fun _ => ⟨hd, hclosed ((shadowLevel_iff s).1 h).1⟩⟩⟩

theorem Keeps.takeReady (ok : Bool) : Keeps P s (s.takeReady ok) := by
  unfold State.takeReady
  split
  · rename_i h
    simp only [Bool.and_eq_true, beq_iff_eq] at h
    exact .after (.raise _ _) <| .after (.setCvu _ _) <| .after (.setState_shadow _ h.2) (.releaseHold s)
  · have h : Keeps P s (s.setSc { s.sc with awaitingReady := false }) := .setSc s _ rfl rfl rfl rfl
    exact .after (.startScan _) (.ite (.after (.appendMark _ _) h) h)

theorem Keeps.takeTaken : Keeps P s s.takeTaken := .after (.raise _ _) (.flushSource s .idle (by simp))

theorem Keeps.sourceFrame (f : Frame) : Keeps P s (s.sourceFrame f) := by
  cases f with
  | keep => exact .refl
  | reply n a fs =>
    unfold State.sourceFrame
    dsimp only
    split
    · rename_i h
      exact .takeReply s a fs h.1
    · exact .discard s _
  | credit n a => exact .ite (.takeCredit s _ _) (.discard s _)
  | need g => exact .ite (.takeNeed s _) (.discard s _)
  | loss e d => exact .ite (.takeLoss s _ _) (.discard s _)
  | ready n ok => exact .ite (.discard s _) (.ite (.takeReady s _) (.count s _))
  | taken n => exact .ite (.takeTaken s) (.discard s _)
  | _ => exact .discard s _

theorem Keeps.takeFrame (f : Frame) : Keeps P s (s.takeFrame f) := by
  unfold State.takeFrame
  split
  · exact .sourceFrame s f
  · exact .of_receiver (by simp_all) (ground_targetFrame s f)
  · unfold State.idleFrame
    split
    · exact .refl
    · exact .discard s f

theorem Keeps.receive (bs : List Byte) : Keeps P s (s.receive bs) := by
  unfold State.receive
  refine .ite .refl (.ite (.crcFailed s bs) ?_)
  dsimp only
  split
  · exact .after (.takeFrame _ _) (.restartSilent s)
  · exact .after (.malformed _ _) (.restartSilent s)

/-! ### Sends of the return list, expiries and the link -/

theorem ground_afterReturn (f : Frame) : (s.afterReturn f).ground = s.ground := by
  unfold State.afterReturn
  split
  · split <;> simp
  · simp

theorem Keeps.sendReturn : Keeps P s s.sendReturn := by
  unfold State.sendReturn
  split
  · rename_i h
    split
    · refine .of_receiver (by simp [h.1]) ?_
      rw [ground_afterReturn]
      rfl
    · exact .refl
  · exact .refl

theorem Keeps.keepaliveExpired (ready : Bool) : Keeps P s (s.keepaliveExpired ready) := by
  unfold State.keepaliveExpired
  refine .ite (.ite (.keepaliveSource s ready) ?_) .refl
  split
  · refine .of_receiving s ‹_› ?_
    unfold State.keepaliveTarget
    dsimp only
    split
    · rw [ground_pump]
      rfl
    · rfl
  · exact .refl

theorem ground_targetLinkLoss (r : FaultReason) : (s.targetLinkLoss r).ground = s.ground := by
  unfold State.targetLinkLoss
  split <;> simp

theorem Keeps.silentExpired : Keeps P s s.silentExpired := by
  unfold State.silentExpired
  extract_lets _ _ u
  have h : Keeps P s u := .setSr s _
  refine .ite (.ite (.after (.sourceLinkLoss _ _) h) ?_) .refl
  split
  · exact .after (.of_receiving u ‹_› (ground_targetLinkLoss _ _)) h
  · exact h

theorem Keeps.linkGoesDown : Keeps P s s.linkGoesDown := by
  unfold State.linkGoesDown
  extract_lets _ u
  have h : Keeps P s u := .setSc s _ rfl rfl rfl rfl
  refine .ite (.after (.sourceLinkLoss _ _) h) ?_
  split
  · rename_i hr
    have hrole : u.sc.role = .target := by
      simp only [Bool.or_eq_true, Bool.and_eq_true, beq_iff_eq] at hr
      exact hr.elim u.receiving_role And.left
    exact .after (.of_receiver (by simp [hrole]) (ground_targetLinkLoss _ _)) h
  · exact h

end Sys2Proof.Machine

namespace Sys2Proof.Machine

open Sys2Proof

variable {P : Nat → Prop} (s : State)

/-! ### Management commands -/

/-- The map goes (R4): nothing is left to keep, on a part with no granule open. -/
theorem Keeps.removeMap (x : Gm) (hm : x.map = none) (hc : x.census = .zero) (hf : x.localFences = s.gm.localFences)
    (hl : x.lock = s.gm.lock) (ho : OpenLevel s → s.openAt = none) : Keeps P s (s.setGm x) := by
  have hcensus : CensusLevel (s.setGm x) := by simp [CensusLevel, hm, hc]
  have hopen : OpenLevel s → OpenLevel (s.setGm x) := fun h => by
    have : (s.setGm x).openAt = none := ho h
    exact ⟨hcensus, by simp [this], by simp [this]⟩
  refine ⟨⟨hf, hl, fun _ => hm, fun _ _ => .inr hm, fun _ _ _ _ hx => .inl hx, fun _ => hcensus, hopen⟩, fun h => ?_⟩
  obtain ⟨h1, -⟩ := (shadowLevel_iff s).1 h
  exact (shadowLevel_iff _).2 ⟨hopen h1, fun _ => ⟨by simp [State.d, hc, Census.zero], ho h1⟩⟩

/-- SC takes other parameters where no granule is open and the map, if there is one, has their span (R181). -/
theorem Keeps.setSc_params (x : Sc) (hst : x.state ≠ .shadow) (hm : ∀ m, s.gm.map = some m → m.length = x.params.span)
    (ho : OpenLevel s → s.openAt = none) : Keeps P s (s.setSc x) := by
  have hcensus : CensusLevel s → CensusLevel (s.setSc x) := by
    unfold CensusLevel
    simp only [State.setSc_gm, State.setSc_sc]
    split
    · exact fun h => ⟨hm _ ‹_›, h.2⟩
    · exact id
  refine Steady.keeps ⟨rfl, rfl, id, fun g hg => .inl hg, fun _ _ _ _ hx => .inl hx, hcensus, fun h => ?_⟩
    (by simp [State.sourceIn, hst])
  have : (s.setSc x).openAt = none := ho h
  exact ⟨hcensus h.1, by simp [this], by simp [this]⟩

/-- No granule is open in IDLE (R5). -/
theorem OpenLevel.closed_in_idle (h : OpenLevel s) (hs : s.sc.state = .idle) : s.openAt = none := by
  by_contra hn
  simpa [State.sweeping, State.sending, State.sourceIn, hs] using h.2.2 hn

/-- SET_SESSION keeps the map where the span is the map's, and removes it otherwise (R4, R181). -/
theorem Keeps.replaceParams (role : Role) (p : Params) (hs : s.sc.state = .idle) : Keeps P s (s.replaceParams role p) := by
  have hst : s.sc.state ≠ .shadow := by simp [hs]
  unfold State.replaceParams
  by_cases hl : s.mapLeaves role p.span = true
  · simp only [hl, if_true]
    exact .after (.setSc_params _ _ hst (by simp [Gm.removeMap]) fun h => h.closed_in_idle _ hs) <|
      .after (.setCvu _ _) (.removeMap s _ rfl rfl rfl rfl fun h => h.closed_in_idle s hs)
  · simp only [hl, if_false, Bool.false_eq_true]
    refine .after (.setSc_params _ _ hst (fun m hm => ?_) fun h => h.closed_in_idle _ hs) (.setCvu s _)
    have hm : s.gm.map = some m := hm
    simp only [State.mapLeaves, hm, Option.any_some, Bool.or_eq_true, bne_iff_ne, not_or, not_not] at hl
    exact hl.2

theorem Keeps.beginListen (hr : s.sc.role = .target) : Keeps P s s.beginListen := by
  refine .after (.judgeHead _) <| .after (.setCvu _ _) <| .after (.setSt _ _ rfl) <|
    .after (.removeMap _ _ rfl rfl rfl rfl fun h => ?_) <|
    .of_receiver (by simp [hr]) (ground_setSc s _ rfl rfl)
  by_contra hn
  simpa [State.sweeping, State.sending, State.sourceIn, hr] using h.2.2 hn

theorem Keeps.deferredTest : Keeps P s s.deferredTest := by
  have h : Keeps P s ((s.setSe { s.se with deferred := false }).cutoverTest .resume) :=
    .after (.cutoverTest _ _) (.setSe s _ rfl)
  exact .ite (.after (.enterCutover _) h) (.after (.rinseOrWait _) h)

theorem Keeps.resumeSweep : Keeps P s s.resumeSweep := by
  have h : Keeps P s (s.setSe { s.se with paused := false }) := .setSe s _ rfl
  exact .ite (.ite (.after (.deferredTest _) h) (.ite (.after (.rinseOrWait _) h) h)) .refl

theorem Keeps.skipTo (c : Cursor) : Keeps P s (s.skipTo c) := .ite .refl (.after (.scanCheck _) (.setSe s _ rfl))

theorem Keeps.immediateTest : Keeps P s s.immediateTest :=
  .ite (.after (.enterCutover _) (.cutoverTest s _)) (.cutoverTest s _)

theorem Keeps.armCutover : Keeps P s s.armCutover := by
  have h : Keeps P s (s.setCvu { s.cvu with armed := true, attempts := 0 }) := .setCvu s _
  exact .ite (.after (.immediateTest _) h) h

/-- DETACH leaves the open record to a SOURCE that sends on (R80, R139). -/
theorem Keeps.beginDetach (hs : s.sending = true) : Keeps P s s.beginDetach := by
  refine .after (.appendMark _ _) <| .after (.setSe _ _ rfl) <| .after (.releaseHold _) ?_
  have hsteady : Steady P s (s.setSc { s.sc with releasePending := true }) := .of_ground rfl fun _ _ => .inr ⟨hs, rfl⟩
  refine ⟨hsteady, fun h => ?_⟩
  obtain ⟨h1, h2⟩ := (shadowLevel_iff s).1 h
  exact (shadowLevel_iff _).2 ⟨hsteady.openLevel h1, h2⟩

theorem Keeps.beginTakeover (hr : s.sc.role = .target) : Keeps P s s.beginTakeover := by
  refine .of_receiver (by simp [hr]) ?_
  unfold State.beginTakeover
  dsimp only
  split
  · rw [ground_pump]
    rfl
  · rfl

theorem Keeps.abortSession : Keeps P s s.abortSession := by
  unfold State.abortSession
  refine .ite .refl ?_
  split
  · exact .flushSource s .idle (by simp)
  · exact .of_receiver (by simp_all) (ground_endTarget s)
  · exact .refl

/-- A part that comes out of a reset: no map, no granule open, an empty TXQ. -/
theorem Keeps.of_cleared {t : State} (hf : t.gm.localFences = s.gm.localFences) (hl : t.gm.lock = s.gm.lock)
    (hm : t.gm.map = none) (hc : t.gm.census = .zero) (ho : t.openAt = none) (hq : t.st.txq = [])
    (hs : t.sc.state = .idle) : Keeps P s t := by
  have hcensus : CensusLevel t := by simp [CensusLevel, hm, hc]
  exact Steady.keeps ⟨hf, hl, fun _ => hm, fun _ _ => .inr hm, fun _ _ _ _ hx => by simp [hq] at hx, fun _ => hcensus,
    fun _ => ⟨hcensus, by simp [ho], by simp [ho]⟩⟩ (by simp [State.sourceIn, hs])

theorem Keeps.commandReset : Keeps P s s.commandReset := .of_cleared s rfl rfl rfl rfl rfl rfl rfl
theorem Keeps.lineReset : Keeps P s s.lineReset := .of_cleared s rfl rfl rfl rfl rfl rfl rfl

theorem Keeps.release (straps : BitVec 3) : Keeps P s (s.release straps) :=
  .after (.emit _ _) <| .after (.setMgp _ _) <| .after (.setCp _ _) (.setPhase s _)

theorem Keeps.tick : Keeps P s s.tick := by
  unfold State.tick
  refine .ite ?_ (.setOut s _)
  exact .after (.setSc _ _ rfl rfl rfl rfl) <| .after (.setSr _ _) <| .after (.setSt _ _ rfl) <|
    .ite (.after (.setSe _ _ rfl) (.setOut s _)) (.setOut s _)

/-! ### Commands -/

/-- An event keeps the map if its meaning does, from the state that the last step's outputs have left. -/
theorem Keeps.event {f : State → State} {t : State} (h : event s f = .next t) (hf : Keeps P (s.setOut []) (f (s.setOut []))) :
    Keeps P s t := by
  cases h
  exact .ite (.after hf (.setOut s _)) (.setOut s _)

/-- A state that a command leaves where it is accepted, seen from the state it is taken in. -/
def CommandResult.keeps (P : Nat → Prop) (s : State) : CommandResult → Prop
  | .accept t _ => Keeps P s t
  | .refuse _ => True

theorem CommandResult.keeps_acceptIf {c : Bool} {code : ResultCode} {t : State} (h : c = true → Keeps P s t) :
    (acceptIf c code t).keeps P s := by
  cases c
  · trivial
  · exact h rfl

/-- What a management command comes to: nothing in a reset, a refusal, or the acceptance of its own checks (R179, R190). -/
theorem command_cases {guarded enable : Bool} {n : Nat} {ps : List Byte} {body : State → CommandResult} {t : State}
    (h : command guarded n enable ps body s = .next t) :
    (s.phase ≠ .running ∧ t = s.setOut []) ∨ (∃ c, t = (s.setOut []).finish guarded false c []) ∨
    ∃ u data, body (s.setOut []) = .accept u data ∧ t = u.finish guarded enable .ok data := by
  by_cases hp : s.phase = .running
  · refine .inr ?_
    cases hc : checked guarded n ps body (s.setOut []) with
    | accept u data =>
      rw [command_accepted s hp hc] at h
      cases h
      refine .inr ⟨u, data, ?_, rfl⟩
      unfold checked at hc
      split at hc
      · cases hc
      · split at hc
        · exact hc
        · cases hc
    | refuse c =>
      rw [command_refused s hp hc] at h
      cases h
      exact .inl ⟨c, rfl⟩
  · rw [command, event_in_reset s _ hp] at h
    cases h
    exact .inl ⟨hp, rfl⟩

theorem Keeps.command {guarded enable : Bool} {n : Nat} {ps : List Byte} {body : State → CommandResult} {t : State}
    (h : command guarded n enable ps body s = .next t) (hb : ∀ u : State, (body u).keeps P u) : Keeps P s t := by
  obtain ⟨-, rfl⟩ | ⟨c, rfl⟩ | ⟨u, data, hu, rfl⟩ := command_cases s h
  · exact .setOut s _
  · exact .after (.finish _ _ _ _ _) (.setOut s _)
  · have hk := hb (s.setOut [])
    rw [hu] at hk
    exact .after (.finish _ _ _ _ _) (.after hk (.setOut s _))

/-- The commands that may change what every other command keeps: the fences, the lock, and the map's EXCLUDED granules. -/
def setsMap : Instr → Bool
  | .setFence .. | .lockFences _ | .start _ | .powerOn => true
  | _ => false

theorem Keeps.skipCommand {name : Nat} {move : State → Cursor} {ps : List Byte} {t : State}
    (h : skipCommand name move ps s = .next t) : Keeps P s t := by
  refine .command s h fun u => ?_
  split
  · exact CommandResult.keeps_acceptIf u fun _ => .skipTo u _
  · trivial

/-- Every command but SET_FENCE, LOCK_FENCES, START and POWER_ON keeps the map. -/
theorem Keeps.exec {c : Instr} {t : State} (h : exec c s = .next t) (hc : setsMap c = false)
    (hP : ∀ g, s.classify g = .mirror → P g) : Keeps P s t := by
  have same : ∀ u : State, Keeps P u u := fun u => .refl
  cases c with
  | clientRequestArrival r => exact .event s h (f := (·.arrive r)) (.arrive _ r)
  | arbitration => exact .event s h (.arbitrate _ hP)
  | memoryResponse q => exact .event s h (f := (·.respond q)) (.respond _ q)
  | visit => exact .event s h (.visit _)
  | granuleClose => exact .event s h (.closeIfDue _)
  | txqSend => exact .event s h (.transmit _)
  | returnListSend => exact .event s h (.sendReturn _)
  | keepaliveExpiry ready => exact .event s h (.keepaliveExpired _ ready)
  | silentLimitExpiry => exact .event s h (.silentExpired _)
  | handshakeExpiry => exact .event s h (.ite (.handshakeLoss _) .refl)
  | holdTimerExpiry => exact .event s h (.ite (.holdExpired _) .refl)
  | linkUp => exact .event s h (f := fun u => u.setSc { u.sc with linkUp := true }) (.setSc _ _ rfl rfl rfl rfl)
  | linkDown => exact .event s h (.linkGoesDown _)
  | frameArrival bs => exact .event s h (f := (·.receive bs)) (.receive _ bs)
  | status ps => exact .command s h same
  | arm ps => exact .command s h fun u => .setMgp u _
  | disarm ps => exact .command s h fun u => .setMgp u _
  | setSession ps =>
    refine .command s h fun u => ?_
    split
    · rename_i hi
      split
      · exact Keeps.replaceParams u _ _ (by simpa [State.isIdle] using hi)
      · trivial
    · trivial
  | loadExtent ps =>
    refine .command s h fun u => ?_
    split
    · exact CommandResult.keeps_acceptIf u fun _ => .setSe u _ rfl
    · trivial
  | planClear ps => exact .command s h fun u => CommandResult.keeps_acceptIf u fun _ => .setSe u _ rfl
  | listen ps =>
    refine .command s h fun u => CommandResult.keeps_acceptIf u fun hi => .beginListen u ?_
    simp only [State.targetIn, Bool.and_eq_true, beq_iff_eq] at hi
    exact hi.1.1
  | pause ps => exact .command s h fun u => CommandResult.keeps_acceptIf u fun _ => .setSe u _ rfl
  | resume ps => exact .command s h fun u => CommandResult.keeps_acceptIf u fun _ => .resumeSweep u
  | skipLevel ps => exact .skipCommand s h
  | skipExtent ps => exact .skipCommand s h
  | cutover ps => exact .command s h fun u => CommandResult.keeps_acceptIf u fun _ => .armCutover u
  | detach ps =>
    refine .command s h fun u => CommandResult.keeps_acceptIf u fun hd => .beginDetach u ?_
    simp only [Bool.and_eq_true] at hd
    exact hd.1
  | takeover ps =>
    refine .command s h fun u => CommandResult.keeps_acceptIf u fun ht => .beginTakeover u ?_
    simp only [State.takeoverAllowed, State.targetIn, Bool.and_eq_true, Bool.or_eq_true, beq_iff_eq] at ht
    obtain ⟨-, ht | ⟨-, ht | ht⟩⟩ := ht <;> exact ht.1
  | abort ps => exact .command s h fun u => .abortSession u
  | setShare ps => exact .command s h fun u => .after (.setSc _ _ rfl rfl rfl rfl) (.setCvu u _)
  | readCursor ps => exact .command s h same
  | readPass ps => exact .command s h same
  | readMap ps =>
    refine .command s h fun u => ?_
    split
    · exact same u
    · trivial
  | readEvent ps => exact .command s h fun u => .setMgp u _
  | ackAlerts ps => exact .command s h fun u => .setAu u _
  | setMask ps => exact .command s h fun u => .setAu u _
  | clearCounters ps => exact .command s h fun u => .after (.setSr _ _) (.setMgp u _)
  | resetEnable ps => exact .command s h same
  | reset ps => exact .command s h fun u => CommandResult.keeps_acceptIf u fun _ => .commandReset u
  | unknown b ps => exact .event s h (f := (·.finish false false .unknown [])) (.finish _ _ _ _ _)
  | powerOnRelease straps =>
    cases h
    exact .ite (.after (.release _ _) (.setOut s _)) (.setOut s _)
  | lineReset => exact .event s h (.lineReset _)
  | lineResetRelease straps =>
    cases h
    exact .ite (.after (.release _ _) (.setOut s _)) (.setOut s _)
  | setFence flock ps => cases hc
  | lockFences ps => cases hc
  | start ps => cases hc
  | powerOn => cases hc

end Sys2Proof.Machine

namespace Sys2Proof.Machine

open Sys2Proof

variable {P : Nat → Prop} (s : State)

/-! ### The commands that set fences, the lock or the map -/

/-- The state with other local fences and another lock; every claim about the map is the same of it. -/
def State.withFences (fences : List (Option Fence)) (lock : LockMode) : State :=
  s.setGm { s.gm with localFences := fences, lock := lock }

theorem censusLevel_withFences (x : List (Option Fence)) (y : LockMode) : CensusLevel (s.withFences x y) ↔ CensusLevel s := Iff.rfl
theorem shadowLevel_withFences (x : List (Option Fence)) (y : LockMode) : ShadowLevel (s.withFences x y) ↔ ShadowLevel s := Iff.rfl

/-- SET_FENCE keeps the map, and outside IDLE the local fences (R12). -/
theorem exec_setFence_keeps {flock : Bool} {ps : List Byte} {t : State} (h : exec (.setFence flock ps) s = .next t) :
    ∃ x, Keeps P (s.withFences x s.gm.lock) t ∧ (s.sc.state ≠ .idle → x = s.gm.localFences) := by
  obtain ⟨-, rfl⟩ | ⟨c, rfl⟩ | ⟨u, data, hu, rfl⟩ := command_cases s h
  · exact ⟨_, .setOut s _, fun _ => rfl⟩
  · exact ⟨_, .after (.finish _ _ _ _ _) (.setOut s _), fun _ => rfl⟩
  · split at hu
    · cases hu
    · split at hu
      · cases hu
      · rename_i hidle _
        unfold acceptIf at hu
        split at hu <;> cases hu
        refine ⟨s.gm.localFences.set (field ps 0 1) (fenceGiven ps),
          .after (.finish _ _ _ _ _) (.setOut (s.withFences _ s.gm.lock) []), fun hn => ?_⟩
        simp [State.isIdle, hn] at hidle

/-- LOCK_FENCES keeps the map; the lock stays, or leaves a mode that is not SESSION for one that is not OPEN (R17). -/
theorem exec_lockFences_keeps {ps : List Byte} {t : State} (h : exec (.lockFences ps) s = .next t) :
    ∃ y, Keeps P (s.withFences s.gm.localFences y) t ∧ (y = s.gm.lock ∨ y ≠ .unlocked ∧ s.gm.lock ≠ .session) := by
  obtain ⟨-, rfl⟩ | ⟨c, rfl⟩ | ⟨u, data, hu, rfl⟩ := command_cases s h
  · exact ⟨_, .setOut s _, .inl rfl⟩
  · exact ⟨_, .after (.finish _ _ _ _ _) (.setOut s _), .inl rfl⟩
  · split at hu
    · cases hu
    · rename_i m hm
      split at hu
      · cases hu
      · rename_i hfree
        cases hu
        refine ⟨m, .after (.finish _ _ _ _ _) (.setOut (s.withFences s.gm.localFences m) []), ?_⟩
        have hlock : ¬ (s.gm.lock = .session ∧ m = .strap) := hfree
        unfold lockModeOf at hm
        split at hm
        · cases hm
          exact .inr ⟨by simp, fun hl => hlock ⟨hl, rfl⟩⟩
        · split at hm <;> cases hm
          by_cases hl : s.gm.lock = .session
          · exact .inl hl.symm
          · exact .inr ⟨by simp, hl⟩

/-- POWER_ON leaves no map to speak of (R20). -/
theorem exec_powerOn_keeps {t : State} (h : exec .powerOn s = .next t) :
    Keeps P (s.withFences emptyFences .unlocked) t := by
  cases h
  exact .of_cleared _ rfl rfl rfl rfl rfl rfl rfl

/-- START is refused, or opens the session (R127). -/
theorem exec_start_keeps {ps : List Byte} {t : State} (h : exec (.start ps) s = .next t) :
    Keeps P s t ∨ Keeps P s.openSession t := by
  obtain ⟨-, rfl⟩ | ⟨c, rfl⟩ | ⟨u, data, hu, rfl⟩ := command_cases s h
  · exact .inl (.setOut s _)
  · exact .inl (.after (.finish _ _ _ _ _) (.setOut s _))
  · unfold acceptIf at hu
    split at hu <;> cases hu
    exact .inr (.after (.finish _ _ _ _ _) (.setOut s.openSession []))

/-- INIT sets the census to that of the map it makes (R3, R9). -/
theorem Gm.init_level (g : Gm) (span : Nat) :
    ∃ m, (g.init span).map = some m ∧ m.length = span ∧ (g.init span).census = censusOf m := by
  refine ⟨_, rfl, by simp, ?_⟩
  have hsum := List.length_eq_countP_add_countP (fencesCover span g.localFences) (l := List.range span)
  rw [List.length_range] at hsum
  have count : ∀ a : GranuleState, ((List.range span).map fun i =>
      if fencesCover span g.localFences i then GranuleState.excluded else .uncopied).count a =
      (List.range span).countP fun i => (if fencesCover span g.localFences i then GranuleState.excluded else .uncopied) == a := by
    intro a
    rw [List.count, List.countP_map]
    rfl
  simp only [Gm.init, censusOf, count, Census.mk.injEq]
  refine ⟨?_, (List.countP_eq_zero.2 fun i _ => ?_).symm, (List.countP_eq_zero.2 fun i _ => ?_).symm, ?_⟩
  · rw [Nat.sub_eq_of_eq_add' hsum]
    refine List.countP_congr fun i _ => ?_
    cases fencesCover span g.localFences i <;> simp
  · split <;> simp
  · split <;> simp
  · refine List.countP_congr fun i _ => ?_
    cases fencesCover span g.localFences i <;> simp

/-- START makes a map level with its census, with no granule open (R3, R9). -/
theorem State.openSession_level : CensusLevel s.openSession ∧ ShadowLevel s.openSession := by
  have hc : CensusLevel s.openSession := by
    obtain ⟨m, hm, hlen, hcen⟩ := s.gm.init_level s.sc.params.span
    have hmap : s.openSession.gm.map = some m := hm
    simp only [CensusLevel, hmap]
    exact ⟨hlen, hcen⟩
  have ho : s.openSession.se.opened = none := rfl
  have hst : s.openSession.sc.state = .handshake := rfl
  exact ⟨hc, hc, by simp [ho], by simp [ho], by simp [State.sourceIn, hst]⟩

/-- Every command keeps the census level with the map and a SOURCE in SHADOW at D 0. -/
theorem exec_level {c : Instr} {t : State} (h : exec c s = .next t) :
    (CensusLevel s → CensusLevel t) ∧ (ShadowLevel s → ShadowLevel t) := by
  by_cases hc : setsMap c = false
  · have hk : Keeps (fun _ => True) s t := .exec s h hc fun _ _ => trivial
    exact ⟨hk.censusLevel, hk.shadowLevel⟩
  · cases c with
    | setFence flock ps =>
      obtain ⟨x, hk, -⟩ := exec_setFence_keeps (P := fun _ => True) s h
      exact ⟨hk.censusLevel, hk.shadowLevel⟩
    | lockFences ps =>
      obtain ⟨y, hk, -⟩ := exec_lockFences_keeps (P := fun _ => True) s h
      exact ⟨hk.censusLevel, hk.shadowLevel⟩
    | powerOn =>
      have hk := exec_powerOn_keeps (P := fun _ => True) s h
      exact ⟨hk.censusLevel, hk.shadowLevel⟩
    | start ps =>
      obtain hk | hk := exec_start_keeps (P := fun _ => True) s h
      · exact ⟨hk.censusLevel, hk.shadowLevel⟩
      · exact ⟨fun _ => hk.censusLevel s.openSession_level.1, fun _ => hk.shadowLevel s.openSession_level.2⟩
    | _ => exact absurd rfl hc

end Sys2Proof.Machine

namespace Sys2Proof.Machine

/-- Settles O53: every operation keeps the map (`Keeps`), so every command and every tick does. -/
theorem stepKeepsShadowLevel : Obligations.StepKeepsShadowLevel := by
  unfold Obligations.StepKeepsShadowLevel
  intro s t h
  cases hp : s.pending with
  | nil =>
    simp only [step, hp] at h
    cases h
    have hk : Keeps (fun _ => True) s s.tick := .tick s
    exact ⟨hk.censusLevel, hk.shadowLevel⟩
  | cons c rest =>
    simp only [step, hp] at h
    exact exec_level (s.setPending rest) h

/-- Settles O57: `Keeps` with the granules that WCU classifies MIRROR in the state before. -/
theorem excludedGranulesStayOut : Obligations.ExcludedGranulesStayOut := by
  unfold Obligations.ExcludedGranulesStayOut
  intro c s t h
  let allowed : Nat → Prop := fun g => s.entry g = some .copied ∨
    s.isOpen g = true ∧ (s.entry g = some .uncopied ∨ s.entry g = some .dirty)
  have hP : ∀ g, s.classify g = .mirror → allowed g := by
    intro g hg
    unfold State.classify at hg
    split at hg
    · cases hg
    · cases hg
    · exact .inl ‹_›
    · split at hg
      · exact .inr ⟨‹_›, .inl ‹_›⟩
      · cases hg
    · split at hg
      · exact .inr ⟨‹_›, .inr ‹_›⟩
      · cases hg
  have given : ∀ u : State, Keeps allowed u t → u.entry = s.entry → u.st.txq = s.st.txq →
      ((∀ ps, c ≠ .start ps) → ∀ g, s.entry g = some .excluded → t.entry g = some .excluded ∨ t.gm.map = none) ∧
      (∀ q a m d, .frame (.mirror q a m d) ∈ t.st.txq → .frame (.mirror q a m d) ∈ s.st.txq ∨ allowed (granuleOf a.toNat)) :=
    fun _ k he hq => ⟨fun _ g hg => k.excluded g (he ▸ hg), hq ▸ k.mirrors⟩
  by_cases hc : setsMap c = false
  · exact given s (.exec s h hc hP) rfl rfl
  · cases c with
    | setFence flock ps =>
      obtain ⟨x, hk, -⟩ := exec_setFence_keeps s h
      exact given _ hk rfl rfl
    | lockFences ps =>
      obtain ⟨y, hk, -⟩ := exec_lockFences_keeps s h
      exact given _ hk rfl rfl
    | powerOn => exact given _ (exec_powerOn_keeps s h) rfl rfl
    | start ps =>
      obtain hk | hk := exec_start_keeps s h
      · exact given _ hk rfl rfl
      · refine ⟨fun hn => absurd rfl (hn ps), fun q a m d hx => (hk.mirrors q a m d hx).imp_left fun hy => ?_⟩
        cases hy with
        | tail _ hy => cases hy
    | _ => exact absurd rfl hc

end Sys2Proof.Machine

/-! ## Numbers at offsets of a layout, and frames that arrive -/

namespace Sys2Proof.Machine

open Sys2Proof

/-! ### Fields (R196) -/

theorem field_append_left {a b : List Byte} {off n : Nat} (h : off + n ≤ a.length) : field (a ++ b) off n = field a off n := by
  unfold field
  rw [List.drop_append_of_le_length (by omega), List.take_append_of_le_length (by rw [List.length_drop]; omega)]

theorem field_append_right {a b : List Byte} {off n : Nat} (h : a.length ≤ off) :
    field (a ++ b) off n = field b (off - a.length) n := by
  unfold field
  rw [List.drop_append, List.drop_of_length_le h, List.nil_append]

theorem field_all {a : List Byte} {n : Nat} (h : a.length = n) : field a 0 n = fromBytes a := by
  unfold field
  rw [List.drop_zero, List.take_of_length_le (by omega)]

/-- The field at the front of a layout. -/
theorem field_toBytes_append (n x : Nat) (rest : List Byte) : field (toBytes n x ++ rest) 0 n = x % 256 ^ n := by
  rw [field_append_left (by simp), field_all (length_toBytes n x), fromBytes_toBytes]

theorem field_toBytes (n x : Nat) : field (toBytes n x) 0 n = x % 256 ^ n := by
  rw [field_all (length_toBytes n x), fromBytes_toBytes]

/-- A field behind the front of a layout. -/
theorem field_toBytes_skip {n off : Nat} (x k : Nat) (rest : List Byte) (h : n ≤ off) :
    field (toBytes n x ++ rest) off k = field rest (off - n) k := by
  rw [field_append_right (by simpa using h), length_toBytes]

/-- One byte is the number of that byte. -/
theorem toBytes_toNat (b : Byte) : toBytes 1 b.toNat = [b] := by simp [toBytes]

theorem field_cons_zero (b : Byte) (rest : List Byte) : field (b :: rest) 0 1 = b.toNat := by
  simp [field, fromBytes]

theorem field_cons_succ (b : Byte) (rest : List Byte) {off : Nat} (k : Nat) (h : 1 ≤ off) :
    field (b :: rest) off k = field rest (off - 1) k := by
  obtain ⟨m, rfl⟩ := Nat.exists_eq_add_of_le' h
  simp [field]

/-! ### Frames that go out are read back (R197, R198) -/

theorem parse_hello (n : Byte) (span : BitVec 24) (q : BitVec 16) :
    parseFrame (Frame.hello n span q).body = some (.hello n span q) := by
  have h3 : field (n :: (toBytes 3 span.toNat ++ toBytes 2 q.toNat)) 1 3 = span.toNat := by
    rw [field_cons_succ _ _ _ (by omega), field_toBytes_append]
    exact Nat.mod_eq_of_lt span.isLt
  have h2 : field (n :: (toBytes 3 span.toNat ++ toBytes 2 q.toNat)) 4 2 = q.toNat := by
    rw [field_cons_succ _ _ _ (by omega), field_toBytes_skip _ _ _ (by omega), field_toBytes]
    exact Nat.mod_eq_of_lt q.isLt
  simp [parseFrame, Frame.body, fieldsOf, field_cons_zero, h3, h2]

theorem parse_need (g : BitVec 24) : parseFrame (Frame.need g).body = some (.need g) := by
  have h : field (toBytes 3 g.toNat) 0 3 = g.toNat := (field_toBytes _ _).trans (Nat.mod_eq_of_lt g.isLt)
  simp [parseFrame, Frame.body, fieldsOf, h]

theorem parse_loss (e d : BitVec 16) : parseFrame (Frame.loss e d).body = some (.loss e d) := by
  have h0 : field (toBytes 2 e.toNat ++ toBytes 2 d.toNat) 0 2 = e.toNat :=
    (field_toBytes_append _ _ _).trans (Nat.mod_eq_of_lt e.isLt)
  have h2 : field (toBytes 2 e.toNat ++ toBytes 2 d.toNat) 2 2 = d.toNat := by
    rw [field_toBytes_skip _ _ _ (by omega), field_toBytes]
    exact Nat.mod_eq_of_lt d.isLt
  simp [parseFrame, Frame.body, fieldsOf, h0, h2]

/-- A fence record is read back at its offset (11.3). -/
theorem wireFenceAt_bytes (pre post : List Byte) (f : WireFence) :
    wireFenceAt (pre ++ (f.bytes ++ post)) pre.length = f := by
  have shift : ∀ off n, field (pre ++ (f.bytes ++ post)) (pre.length + off) n = field (f.bytes ++ post) off n := by
    intro off n
    rw [field_append_right (by omega), Nat.add_sub_cancel_left]
  have h0 : field (f.bytes ++ post) 0 3 = f.first.toNat := by
    rw [WireFence.bytes, List.append_assoc, List.append_assoc, field_toBytes_append]
    exact Nat.mod_eq_of_lt f.first.isLt
  have h3 : field (f.bytes ++ post) 3 3 = f.length.toNat := by
    rw [WireFence.bytes, List.append_assoc, List.append_assoc, field_toBytes_skip _ _ _ (by omega), field_toBytes_append]
    exact Nat.mod_eq_of_lt f.length.isLt
  have h6 : field (f.bytes ++ post) 6 1 = (if f.invert then 1#8 else 0#8).toNat := by
    rw [WireFence.bytes, List.append_assoc, List.append_assoc, field_toBytes_skip _ _ _ (by omega),
      field_toBytes_skip _ _ _ (by omega)]
    exact field_cons_zero _ _
  have hflag : flagAt (pre ++ (f.bytes ++ post)) (pre.length + 6) 0 = f.invert := by
    rw [flagAt, shift, h6]
    cases f.invert <;> rfl
  have hz := shift 0 3
  rw [Nat.add_zero] at hz
  rw [wireFenceAt, hz, h0, shift, h3, hflag, BitVec.ofNat_toNat, BitVec.ofNat_toNat]
  simp

/-- The records of a REPLY are read back in their order (R13). -/
theorem wireFences_bytes (fs : List WireFence) (pre : List Byte) :
    (List.range fs.length).map (fun i => wireFenceAt (pre ++ (fs.map WireFence.bytes).flatten) (pre.length + 7 * i)) = fs := by
  induction fs generalizing pre with
  | nil => rfl
  | cons f fs ih =>
    have hlen : f.bytes.length = 7 := by simp [WireFence.bytes]
    simp only [List.length_cons, List.range_succ_eq_map, List.map_cons, List.map_map, List.flatten_cons, Nat.mul_zero,
      Nat.add_zero, wireFenceAt_bytes]
    congr 1
    have h := ih (pre ++ f.bytes)
    rw [List.append_assoc, List.length_append, hlen] at h
    refine Eq.trans (List.map_congr_left fun i _ => ?_) h
    simp only [Function.comp_apply]
    congr 1
    omega

theorem parse_reply (n : Byte) (a : ReplyAnswer) (fs : List WireFence) (h : fs.length ≤ 8) :
    parseFrame (Frame.reply n a fs).body = some (.reply n a fs) := by
  have hlen : (fs.map WireFence.bytes).flatten.length = 7 * fs.length := by
    simp [List.length_flatten, Function.comp_def, WireFence.bytes, Nat.mul_comm]
  have h1 : ∀ r : List Byte, field (n :: a.code :: BitVec.ofNat 8 fs.length :: r) 1 1 = a.code.toNat := fun r => by
    rw [field_cons_succ _ _ _ (by omega), field_cons_zero]
  have h2 : ∀ r : List Byte, field (n :: a.code :: BitVec.ofNat 8 fs.length :: r) 2 1 = fs.length := fun r => by
    rw [field_cons_succ _ _ _ (by omega), field_cons_succ _ _ _ (by omega), field_cons_zero, BitVec.toNat_ofNat]
    exact Nat.mod_eq_of_lt (by omega)
  have ha : answerOf a.code = some a := by cases a <;> rfl
  have hfs := wireFences_bytes fs [n, a.code, BitVec.ofNat 8 fs.length]
  simp only [List.cons_append, List.nil_append, List.length_cons, List.length_nil] at hfs
  simp [parseFrame, Frame.body, fieldsOf, h1, h2, hlen, h, ha, field_cons_zero, hfs]
  omega

/-! ### A frame that arrives -/

/-- A good frame restarts the silent timer where it runs (R104, R106). -/
theorem State.restartSilent_setOut (s : State) : (s.setOut []).restartSilent = s.heard := by
  unfold State.restartSilent State.heard
  by_cases h : s.sr.silent.running = true
  · simp only [State.setOut_sr, h, if_true]
    rw [← h]
    rfl
  · simp [h, State.setOut]

/-- A well-formed frame at a running part with the link up is taken by its role (R103, R104). -/
theorem exec_frameArrival {s : State} {f : Frame} (hp : s.phase = .running) (hl : s.sc.linkUp = true)
    (hf : parseFrame f.body = some f) : exec (.frameArrival f.bytes) s = .next (s.heard.takeFrame f) := by
  have h : exec (.frameArrival f.bytes) s = .next ((s.setOut []).receive f.bytes) := event_running s (·.receive f.bytes) hp
  rw [h, State.receive]
  simp [hl, Frame.crc_bytes, Frame.body_bytes, hf, State.restartSilent_setOut]

end Sys2Proof.Machine

/-! ## Management commands and resets -/

namespace Sys2Proof.Machine

open Sys2Proof

/-! ### What a command leaves (R177, R179, R180) -/

section Commands

variable {guarded enable : Bool} {n : Nat} {ps : List Byte} {body : State → CommandResult} {s u : State}

theorem command_accepts {data : List Byte} (hp : s.phase = .running) (hg : guarded = true → s.mgp.armLatch = true)
    (hn : ps.length = n) (hb : body (s.setOut []) = .accept u data) :
    command guarded n enable ps body s = .next (u.finish guarded enable .ok data) :=
  command_accepted s hp ((checked_body (s.setOut []) hg hn).trans hb)

theorem command_refuses {c : ResultCode} (hp : s.phase = .running) (hg : guarded = true → s.mgp.armLatch = true)
    (hn : ps.length = n) (hb : body (s.setOut []) = .refuse c) :
    command guarded n enable ps body s = .next (s.replying guarded false c []) :=
  command_refused s hp ((checked_body (s.setOut []) hg hn).trans hb)

theorem command_unarmed (hp : s.phase = .running) (ha : s.mgp.armLatch = false) :
    command true n enable ps body s = .next (s.replying true false .unarmed []) :=
  command_refused s hp (checked_unarmed (s.setOut []) ha)

/-- A command but RESET_ENABLE leaves the reset-enable latch clear (R189). -/
theorem command_resetEnable {t : State} (hp : s.phase = .running) (h : command guarded n false ps body s = .next t) :
    t.mgp.resetEnable = false := by
  obtain ⟨hn, -⟩ | ⟨c, rfl⟩ | ⟨u, data, -, rfl⟩ := command_cases s h
  · exact absurd hp hn
  · rfl
  · rfl

/-- A command that answers a record and changes nothing else. -/
theorem command_reads {f : State → List Byte} (hp : s.phase = .running) (hn : ps.length = n) :
    command false n enable ps (fun u => .accept u (f u)) s = .next (s.replying false enable .ok (f (s.setOut []))) :=
  command_accepts (guarded := false) (u := s.setOut []) hp (by simp) hn rfl

/-- A command with one condition, met. -/
theorem command_if_accepts {c : State → Bool} {code : ResultCode} {f : State → State} (hp : s.phase = .running)
    (hg : guarded = true → s.mgp.armLatch = true) (hn : ps.length = n) (hc : c (s.setOut []) = true) :
    command guarded n enable ps (fun u => acceptIf (c u) code (f u)) s =
      .next ((f (s.setOut [])).finish guarded enable .ok []) :=
  command_accepts hp hg hn (if_pos hc)

/-- A command with one condition, not met. -/
theorem command_if_refuses {c : State → Bool} {code : ResultCode} {f : State → State} (hp : s.phase = .running)
    (hg : guarded = true → s.mgp.armLatch = true) (hn : ps.length = n) (hc : c (s.setOut []) = false) :
    command guarded n enable ps (fun u => acceptIf (c u) code (f u)) s = .next (s.replying guarded false code []) :=
  command_refuses hp hg hn (by simp [acceptIf, hc])

end Commands

/-! ### Fences -/

/-- The parameter bytes of SET_FENCE (11.3). -/
def setFenceBytes (slot : Byte) (first length : BitVec 24) (flags : Byte) : List Byte :=
  [slot] ++ toBytes 3 first.toNat ++ toBytes 3 length.toNat ++ [flags]

section SetFence

variable (slot flags : Byte) (first length : BitVec 24)

theorem setFenceBytes_slot : field (setFenceBytes slot first length flags) 0 1 = slot.toNat := field_cons_zero _ _

theorem setFenceBytes_first : field (setFenceBytes slot first length flags) 1 3 = first.toNat := by
  simp only [setFenceBytes, List.append_assoc, List.cons_append, List.nil_append]
  rw [field_cons_succ _ _ _ (by omega), field_toBytes_append]
  exact Nat.mod_eq_of_lt first.isLt

theorem setFenceBytes_length : field (setFenceBytes slot first length flags) 4 3 = length.toNat := by
  simp only [setFenceBytes, List.append_assoc, List.cons_append, List.nil_append]
  rw [field_cons_succ _ _ _ (by omega), field_toBytes_skip _ _ _ (by omega), field_toBytes_append]
  exact Nat.mod_eq_of_lt length.isLt

theorem setFenceBytes_flag (i : Nat) : flagAt (setFenceBytes slot first length flags) 7 i = flags.getLsbD i := by
  simp only [flagAt, setFenceBytes, List.append_assoc, List.cons_append, List.nil_append]
  rw [field_cons_succ _ _ _ (by omega), field_toBytes_skip _ _ _ (by omega), field_toBytes_skip _ _ _ (by omega)]
  exact congrArg (·.testBit i) (field_cons_zero _ _)

/-- What SET_FENCE holds in its slot (R12). -/
theorem fenceGiven_setFenceBytes : fenceGiven (setFenceBytes slot first length flags) =
    if flags.getLsbD 1 then none else some ⟨first.toNat, length.toNat, flags.getLsbD 0⟩ := by
  simp [fenceGiven, fenceAt, setFenceBytes_first, setFenceBytes_length, setFenceBytes_flag]

/-- The range check of SET_FENCE (R11, R12). -/
theorem fenceLoadable_setFenceBytes : fenceLoadable (setFenceBytes slot first length flags) = true ↔
    slot.toNat < 8 ∧ (flags.getLsbD 1 = true ∨ first.toNat < 1048576 ∧ 1 ≤ length.toNat ∧ length.toNat ≤ 1048576) := by
  simp only [fenceLoadable, setFenceBytes_slot, setFenceBytes_first, setFenceBytes_length, setFenceBytes_flag, fenceInRange,
    Config.fenceSlots, Config.maxGranules, Bool.and_eq_true, Bool.or_eq_true, decide_eq_true_eq, and_assoc]

end SetFence

/-- What the fence lock forbids (R16). -/
theorem LockMode.allows_eq_false {m : LockMode} {flock : Bool} :
    m.allows flock = false ↔ m = .session ∨ m = .strap ∧ flock = true := by
  cases m <;> simp [LockMode.allows]

/-- Outside IDLE no command but POWER_ON changes the local fences (R12, R20). -/
theorem exec_localFences {c : Instr} {s t : State} (h : exec c s = .next t) (hn : s.sc.state ≠ .idle) (hc : c ≠ .powerOn) :
    t.gm.localFences = s.gm.localFences := by
  by_cases hm : setsMap c = false
  · exact (Keeps.exec (P := fun _ => True) s h hm fun _ _ => trivial).localFences
  · cases c with
    | setFence flock ps =>
      obtain ⟨x, hk, hx⟩ := exec_setFence_keeps (P := fun _ => True) s h
      exact hk.localFences.trans (hx hn)
    | lockFences ps =>
      obtain ⟨y, hk, -⟩ := exec_lockFences_keeps (P := fun _ => True) s h
      exact hk.localFences
    | start ps =>
      obtain hk | hk := exec_start_keeps (P := fun _ => True) s h
      · exact hk.localFences
      · exact hk.localFences
    | powerOn => exact absurd rfl hc
    | _ => exact absurd rfl hm

/-- The lock moves by LOCK_FENCES, and by nothing else but POWER_ON (R17). -/
theorem exec_lock {c : Instr} {s t : State} (h : exec c s = .next t) (hc : c ≠ .powerOn) :
    t.gm.lock = s.gm.lock ∨ (∃ ps, c = .lockFences ps) ∧ t.gm.lock ≠ .unlocked ∧ s.gm.lock ≠ .session := by
  by_cases hm : setsMap c = false
  · exact .inl (Keeps.exec (P := fun _ => True) s h hm fun _ _ => trivial).lock
  · cases c with
    | setFence flock ps =>
      obtain ⟨x, hk, -⟩ := exec_setFence_keeps (P := fun _ => True) s h
      exact .inl hk.lock
    | lockFences ps =>
      obtain ⟨y, hk, hy⟩ := exec_lockFences_keeps (P := fun _ => True) s h
      have hl : t.gm.lock = y := hk.lock
      exact hy.imp hl.trans fun hy => ⟨⟨ps, rfl⟩, hl ▸ hy.1, hy.2⟩
    | start ps =>
      obtain hk | hk := exec_start_keeps (P := fun _ => True) s h
      · exact .inl hk.lock
      · exact .inl hk.lock
    | powerOn => exact absurd rfl hc
    | _ => exact absurd rfl hm

/-- Settles O39: the checks in their order, and `Keeps` for the fences in a session. -/
theorem setFence : Obligations.SetFence := by
  unfold Obligations.SetFence
  refine ⟨fun flock ps s hp ha => command_unarmed hp ha, ?_, fun c s t h hn hc => exec_localFences h hn hc⟩
  intro flock slot flags first length s hp ha
  dsimp only
  have hn : (setFenceBytes slot first length flags).length = 8 := by simp [setFenceBytes]
  have hall : s.gm.lock.allows flock = false ↔ s.gm.lock = .session ∨ s.gm.lock = .strap ∧ flock = true :=
    LockMode.allows_eq_false
  change (_ → exec (.setFence flock (setFenceBytes slot first length flags)) s = _) ∧
    (_ → _ → exec (.setFence flock (setFenceBytes slot first length flags)) s = _) ∧
    (_ → _ → _ → exec (.setFence flock (setFenceBytes slot first length flags)) s = _) ∧
    (_ → _ → _ → exec (.setFence flock (setFenceBytes slot first length flags)) s = _)
  rw [← hall, Bool.not_eq_false, ← fenceLoadable_setFenceBytes, Bool.not_eq_true,
    ← setFenceBytes_slot slot flags first length, ← fenceGiven_setFenceBytes slot]
  generalize setFenceBytes slot first length flags = ps at hn
  refine ⟨fun hs => ?_, fun hs hl => ?_, fun hs hl hx => ?_, fun hs hl hx => ?_⟩
  · refine command_refuses hp (fun _ => ha) hn ?_
    simp [State.isIdle, hs]
  · refine command_refuses hp (fun _ => ha) hn ?_
    simp [State.isIdle, hs, hl]
  · refine command_refuses hp (fun _ => ha) hn ?_
    simp [State.isIdle, hs, hl, acceptIf, hx]
  · refine command_accepts (u := (s.setOut []).setGm { s.gm with
      localFences := (s.gm.localFences.set (field ps 0 1) (fenceGiven ps)) }) (data := []) hp (fun _ => ha) hn ?_
    simp [State.isIdle, hs, hl, acceptIf, hx]

/-- Settles O40: the checks in their order, and `Keeps` for every other command. -/
theorem lockMovesForward : Obligations.LockMovesForward := by
  unfold Obligations.LockMovesForward
  refine ⟨fun ps s hp ha => command_unarmed hp ha, fun mode s hp ha => ?_, fun c s t h =>
    ⟨fun hc => ?_, exec_lock h⟩⟩
  · have hfield : field [mode] 0 1 = mode.toNat := field_cons_zero _ _
    refine ⟨fun h1 h2 => ?_, fun h1 hl => ?_, fun h1 hl => ?_, fun h2 => ?_⟩
    · have hm : lockModeOf (field [mode] 0 1) = none := by
        have n1 : mode.toNat ≠ 1 := fun h => h1 (BitVec.eq_of_toNat_eq h)
        have n2 : mode.toNat ≠ 2 := fun h => h2 (BitVec.eq_of_toNat_eq h)
        rw [hfield, lockModeOf, if_neg n1, if_neg n2]
      refine command_refuses hp (fun _ => ha) rfl ?_
      rw [hm]
    · subst h1
      exact command_refuses hp (fun _ => ha) rfl (if_pos ⟨hl, rfl⟩)
    · subst h1
      refine command_accepts (u := (s.setOut []).setGm { s.gm with lock := .strap }) (data := []) hp (fun _ => ha) rfl ?_
      exact if_neg fun h => hl h.1
    · subst h2
      refine command_accepts (u := (s.setOut []).setGm { s.gm with lock := .session }) (data := []) hp (fun _ => ha) rfl ?_
      exact if_neg fun h => by cases h.2
  · subst hc
    cases h
    rfl

end Sys2Proof.Machine

namespace Sys2Proof.Machine

open Sys2Proof

/-! ### Resets (R189 to R192) -/

/-- In a reset every command but the rise of the supply and the releases does nothing (R190, R191). -/
theorem exec_in_reset {c : Instr} {s : State} (hp : s.phase ≠ .running) (hc : c.takenInReset = false) :
    exec c s = .next (s.setOut []) := by
  have nothing : ∀ u : State, Host.Outcome.next (if s.phase = .running then u else s.setOut []) =
      (.next (s.setOut []) : Answered) := fun u => by rw [if_neg hp]
  cases c with
  | powerOn => cases hc
  | powerOnRelease x => cases hc
  | lineResetRelease x => cases hc
  | _ => exact nothing _

/-- Settles O49: each reset and its release, from the model's own reset values. -/
theorem resetsLeaveFirstValues : Obligations.ResetsLeaveFirstValues := by
  unfold Obligations.ResetsLeaveFirstValues
  refine ⟨fun c s hp hc => exec_in_reset hp hc, fun s hp => ?_, fun x s hp => ⟨?_, ?_⟩, fun x s => ⟨?_, fun hp => ?_⟩⟩
  · simp [State.alertLine, hp]
  · exact congrArg _ (if_neg (by simp [hp]))
  · exact congrArg _ (if_neg (by simp [hp]))
  · exact ⟨s.powerOnReset, rfl, rfl, rfl⟩
  · exact ⟨(s.setOut []).lineReset, event_running s State.lineReset hp, rfl, rfl⟩

/-- Every command of the management line but RESET_ENABLE leaves the reset-enable latch clear (R189). -/
theorem exec_resetEnable_clear {c : Instr} {s t : State} (hp : s.phase = .running) (hm : c.managed = true)
    (hc : ∀ ps, c ≠ .resetEnable ps) (h : exec c s = .next t) : t.mgp.resetEnable = false := by
  cases c with
  | resetEnable ps => exact absurd rfl (hc ps)
  | unknown b ps =>
    have he : exec (.unknown b ps) s = .next ((s.setOut []).finish false false .unknown []) :=
      event_running s (·.finish false false .unknown []) hp
    rw [he] at h
    cases h
    rfl
  | status ps => exact command_resetEnable hp h
  | arm ps => exact command_resetEnable hp h
  | disarm ps => exact command_resetEnable hp h
  | setSession ps => exact command_resetEnable hp h
  | loadExtent ps => exact command_resetEnable hp h
  | planClear ps => exact command_resetEnable hp h
  | setFence flock ps => exact command_resetEnable hp h
  | lockFences ps => exact command_resetEnable hp h
  | start ps => exact command_resetEnable hp h
  | listen ps => exact command_resetEnable hp h
  | pause ps => exact command_resetEnable hp h
  | resume ps => exact command_resetEnable hp h
  | skipLevel ps => exact command_resetEnable hp h
  | skipExtent ps => exact command_resetEnable hp h
  | cutover ps => exact command_resetEnable hp h
  | detach ps => exact command_resetEnable hp h
  | takeover ps => exact command_resetEnable hp h
  | abort ps => exact command_resetEnable hp h
  | setShare ps => exact command_resetEnable hp h
  | readCursor ps => exact command_resetEnable hp h
  | readPass ps => exact command_resetEnable hp h
  | readMap ps => exact command_resetEnable hp h
  | readEvent ps => exact command_resetEnable hp h
  | ackAlerts ps => exact command_resetEnable hp h
  | setMask ps => exact command_resetEnable hp h
  | clearCounters ps => exact command_resetEnable hp h
  | reset ps => exact command_resetEnable hp h
  | _ => cases hm

/-- Settles O36: the latch by `exec_resetEnable_clear`, the reset by the model's own first values. -/
theorem commandReset : Obligations.CommandReset := by
  unfold Obligations.CommandReset
  refine fun s hp => ⟨?_, fun c t hm hc h => exec_resetEnable_clear hp hm hc h, fun he => ?_, fun he => ?_⟩
  · exact command_reads (ps := []) (n := 0) (f := fun _ => []) hp rfl
  · exact command_if_refuses (c := fun u => u.mgp.resetEnable) hp (by simp) rfl he
  · refine Eq.trans (command_if_accepts (c := fun u => u.mgp.resetEnable) (f := State.commandReset) hp (by simp) rfl he) ?_
    simp only [State.commandReset, State.dropOwn_eq]
    simp [State.finish_eq, State.setMgp, State.setAu, State.setCvu, State.setSc, State.setSr, State.setSt, State.setSe,
      State.setGm, State.setMp, State.setCp, State.setOut, Mgp.initial, State.reset, Sc.commandReset, State.droppedTable, hp]

/-! ### Opening a session -/

/-- INIT in terms of the covered granules (R3). -/
theorem Gm.init_eq (g : Gm) (span : Nat) : g.init span =
    let fenced := (List.range span).map (fencesCover span g.localFences)
    { g with
      map := some (fenced.map fun c => if c then .excluded else .uncopied)
      census := ⟨span - fenced.count true, 0, 0, fenced.count true⟩
      nc := 0
      nd := 0
      ndNext := 0
      peerFences := List.replicate 8 none } := by
  have hcount : ((List.range span).map (fencesCover span g.localFences)).count true =
      (List.range span).countP (fencesCover span g.localFences) := by
    rw [List.count, List.countP_map]
    exact List.countP_congr fun i _ => by simp
  simp only [hcount, List.map_map]
  rfl

/-- LISTEN takes effect, up to the judging of the head (R132). -/
def State.listenOpened (s : State) : State :=
  { s with
    gm := { s.gm with map := none, census := ⟨0, 0, 0, 0⟩, peerFences := List.replicate 8 none }
    st := { s.st with returnList := [] }
    sc := { s.sc with synced := false, unsynced := false, faultReason := none, state := .listen }
    cvu := { s.cvu with share := s.sc.params.share } }

/-- LISTEN is accepted on a TARGET in IDLE with a span set (R132). -/
theorem exec_listen {s : State} (hp : s.phase = .running) (ha : s.mgp.armLatch = true) (hr : s.sc.role = .target)
    (hs : s.sc.state = .idle) (hspan : s.sc.params.span ≠ 0) :
    exec (.listen []) s = .next ((s.setOut []).listenOpened.judgeHead.finish true false .ok []) := by
  refine command_if_accepts (f := State.beginListen) hp (fun _ => ha) rfl ?_
  simp [State.targetIn, hr, hs, hspan]

/-- Settles O41: the conditions of each command, and the operations it takes effect by. -/
theorem startAndListen : Obligations.StartAndListen := by
  unfold Obligations.StartAndListen
  intro s hp ha
  refine ⟨fun hn => ?_, fun hr hs hl hspan => ?_, fun hn => ?_, fun hr hs hspan hj => ?_⟩
  · refine command_if_refuses hp (fun _ => ha) rfl ?_
    simpa [State.sourceIn, and_assoc] using hn
  · refine Eq.trans (command_if_accepts (f := State.openSession) hp (fun _ => ha) rfl ?_) ?_
    · simp [State.sourceIn, hr, hs, hl, hspan]
    · unfold State.openSession
      dsimp only
      rw [Gm.init_eq]
      rfl
  · refine command_if_refuses hp (fun _ => ha) rfl ?_
    simpa [State.targetIn, and_assoc] using hn
  · have hstands : (s.setOut []).listenOpened.judgeHead = (s.setOut []).listenOpened := State.judgeHead_stands _ hj
    rw [exec_listen hp ha hr hs hspan, hstands]
    rfl

/-! ### The state after reset -/

/-- Settles O56: every list is empty, every counter at its first value, and no role is set. -/
theorem resetMeetsInvariants : Obligations.ResetMeetsInvariants := by
  unfold Obligations.ResetMeetsInvariants
  refine ⟨rfl, ⟨rfl, List.nodup_nil, fun r hr => absurd hr List.not_mem_nil⟩,
    ⟨rfl, ?_, ?_, ?_⟩, ?_, ?_, ?_, ?_, trivial, ?_, ?_, rfl⟩
  · exact nofun
  · exact fun h => absurd rfl h
  · exact nofun
  · exact ⟨rfl, rfl, rfl, rfl, rfl, nofun, nofun⟩
  · unfold ListsInBounds
    decide
  · unfold SharesInRange
    decide
  · exact fun i h => absurd h (Nat.not_lt_zero i)
  · exact nofun
  · exact nofun

end Sys2Proof.Machine

/-! ## Passes, closes and the answers of the TARGET -/

namespace Sys2Proof.Machine

open Sys2Proof

variable (s : State)

/-! ### The end of a pass (R73) -/

/-- A mark with room below TXQ_HIGH is one more entry and nothing else (R89, R90). -/
theorem State.appendMark_plain (k : MarkKind) (h : s.st.txq.length < 62) (hp : s.st.pendingMarks = []) :
    s.appendMark k = s.setSt { s.st with txq := s.st.txq ++ [.frame (.mark s.sc.session k)] } := by
  rw [State.appendMark_room s k (by omega) hp, State.appendTx_eq, if_neg (by omega)]
  rfl

/-- The final scan with D at 0 stops with CUTOVER_END (R78). -/
theorem State.finishScan_eq (h : s.st.txq.length < 62) (hp : s.st.pendingMarks = []) : s.finishScan = { s with
    se := { s.se with running := false }
    st := { s.st with txq := s.st.txq ++ [.frame (.mark s.sc.session .cutoverEnd)] } } :=
  State.appendMark_plain (s.setSe { s.se with running := false }) .cutoverEnd h hp

/-- The final scan from 0 ends at once at D 0 (R78, R79). -/
theorem State.startScan_eq (h : s.st.txq.length < 62) (hp : s.st.pendingMarks = []) : s.startScan = { s with
    se := { s.se with running := decide (0 < s.d), waiting := false, scanIdx := 0 }
    st := { s.st with txq := s.st.txq ++ if s.d = 0 then [.frame (.mark s.sc.session .cutoverEnd)] else [] } } := by
  let u := s.setSe { s.se with running := true, waiting := false, scanIdx := 0 }
  change (if s.d = 0 then u.finishScan else u) = _
  rw [u.finishScan_eq h hp]
  by_cases hd : s.d = 0
  · simp only [hd, if_true, Nat.lt_irrefl, decide_false]
    rfl
  · simp only [hd, if_false, Nat.pos_of_ne_zero hd, decide_true, List.append_nil]
    rfl

/-- CUTOVER entered with room for its marks: hold, the hold timer, the final scan (R78, R164). -/
theorem State.enterCutover_eq (h : s.st.txq.length < 61) (hp : s.st.pendingMarks = []) : s.enterCutover = { s with
    cp := { s.cp with hold := true }
    se := { s.se with running := decide (0 < s.d), waiting := false, scanIdx := 0 }
    st := { s.st with txq := s.st.txq ++ .frame (.mark s.sc.session (.cutoverBegin (BitVec.ofNat 8 (s.cvu.attempts + 1)))) ::
      if s.d = 0 then [.frame (.mark s.sc.session .cutoverEnd)] else [] }
    sc := { s.sc with state := .cutover, holdTimer := ⟨true, 0⟩ }
    cvu := { s.cvu with attempts := s.cvu.attempts + 1 } } := by
  let u : State := { s with
    cp := { s.cp with hold := true }
    sc := { s.sc with state := .cutover, holdTimer := ⟨true, 0⟩ }
    cvu := { s.cvu with attempts := s.cvu.attempts + 1 } }
  change (u.appendMark (.cutoverBegin (BitVec.ofNat 8 (s.cvu.attempts + 1)))).startScan = _
  rw [u.appendMark_plain _ (Nat.lt_trans h (by omega)) hp]
  refine (State.startScan_eq _ ?_ ?_).trans ?_
  · simp only [State.setSt_st, List.length_append, List.length_singleton]
    exact Nat.succ_lt_succ h
  · exact hp
  · simp only [State.setSt_st, List.append_assoc, List.singleton_append]
    rfl

/-- What follows a pass end that does not enter CUTOVER (R73). -/
theorem State.rinseOrWait_eq : s.rinseOrWait = { s with
    gm := { s.gm with nc := if 0 < s.d then 0 else s.gm.nc, nd := if 0 < s.d then 0 else s.gm.nd }
    se := { s.se with
      running := decide (0 < s.d)
      waiting := !decide (0 < s.d)
      scanIdx := if 0 < s.d then 0 else s.se.scanIdx
      passTimer := if 0 < s.d then 0 else s.se.passTimer } } := by
  unfold State.rinseOrWait
  by_cases hd : 0 < s.d
  · simp only [hd, if_true, decide_true, Bool.not_true]
    rfl
  · simp only [hd, if_false, decide_false, Bool.not_false]
    rfl

/-- The alerts of a pass end in the order of the latch (R154, R155, R157). -/
theorem passEnd_alerts (latch : BitVec 12) (ok third : Bool) :
    (if third then (if ok then latch ||| Alert.eligible.bit else latch) ||| Alert.nonconvergent.bit
      else if ok then latch ||| Alert.eligible.bit else latch) ||| Alert.passEnd.bit =
    latch ||| 0x001#12 ||| (if ok then 0x002#12 else 0) ||| (if third then 0x020#12 else 0) := by
  have h1 : Alert.passEnd.bit = 0x001#12 := rfl
  have h2 : Alert.eligible.bit = 0x002#12 := rfl
  have h3 : Alert.nonconvergent.bit = 0x020#12 := rfl
  rw [h1, h2, h3]
  cases ok <;> cases third <;> simp <;> ac_rfl

theorem passTime_eq (n : Nat) : passTime n = max 1 n := by
  unfold passTime
  split <;> omega

/-- CVU takes a pass end: the record, the rates, the streak and the share, with their alerts (R150 to R155). -/
theorem State.takePassEnd_eq : s.takePassEnd =
    let t := max 1 s.se.passTimer
    let nd := min 16777215 (s.gm.nd + s.gm.ndNext)
    let c := if s.gm.nc = 0 then s.cvu.heldC else min 65535 (s.gm.nc * 1024 / t)
    let r := min 65535 (nd * 1024 / t)
    let conv := decide (r < c)
    let third := !conv && decide (2 ≤ s.cvu.streak)
    let streak := if conv || third then 0 else s.cvu.streak + 1
    let ok := eligibleFor s.sc.params c s.d
    { s with
      gm := { s.gm with ndNext := 0 }
      cvu := { s.cvu with
        heldC := c
        streak := streak
        share := if third && decide (s.cvu.share < 15) then s.cvu.share + 1 else s.cvu.share
        record := {
          valid := true
          passNo := s.se.passNo
          t := t
          nc := s.gm.nc
          nd := nd
          d := s.d
          c := c
          cHeld := decide (s.gm.nc = 0)
          r := r
          h := predictedHold s.d c s.sc.params.qAllow
          eligible := ok
          converging := conv
          streak := streak
          point := if s.se.paused then .deferred else .passEnd } }
      au := { s.au with latch :=
        if third then (if ok then s.au.latch ||| Alert.eligible.bit else s.au.latch) ||| Alert.nonconvergent.bit
        else if ok then s.au.latch ||| Alert.eligible.bit else s.au.latch } } := by
  have hthird : decide (Config.streakLimit ≤ s.cvu.streak + 1) = decide (2 ≤ s.cvu.streak) := by
    rw [decide_eq_decide, Config.streakLimit]
    omega
  unfold State.takePassEnd
  simp only [passTime_eq, copyRate, rate, Gm.passNd, Config.max24, Config.max16, Config.maxShare, State.raiseIf_eq, ge_iff_le, hthird]
  rfl

/-- What follows the record of a pass: its alert, the next pass number, then DEFERRED while PAUSED, else the decision (R73). -/
def State.passRecorded (s : State) : State :=
  let u := (s.raise .passEnd).setSe { s.se with passNo := satSucc Config.max16 s.se.passNo }
  if s.se.paused then (u.setSe { u.se with deferred := true }).setState .rinse
  else if s.cvu.record.eligible && s.cvu.armed then u.enterCutover
  else (u.setState .rinse).rinseOrWait

theorem State.passEnd_recorded : s.passEnd = ((s.setSe { s.se with running := false }).appendMark
    (.passEnd (BitVec.ofNat 16 s.se.passNo) (BitVec.ofNat 24 s.d))).takePassEnd.passRecorded := rfl

/-- What a recorded pass leaves, branch by branch. -/
theorem State.passRecorded_eq (h : s.st.txq.length < 61) (hp : s.st.pendingMarks = []) : s.passRecorded =
    let cutover := !s.se.paused && s.cvu.record.eligible && s.cvu.armed
    let rinse := !s.se.paused && !cutover && decide (0 < s.d)
    { s with
      cp := { s.cp with hold := s.cp.hold || cutover }
      gm := { s.gm with nc := if rinse then 0 else s.gm.nc, nd := if rinse then 0 else s.gm.nd }
      se := { s.se with
        passNo := min 65535 (s.se.passNo + 1)
        passTimer := if rinse then 0 else s.se.passTimer
        scanIdx := if cutover || rinse then 0 else s.se.scanIdx
        running := if s.se.paused then s.se.running else rinse || (cutover && decide (0 < s.d))
        waiting := if s.se.paused then s.se.waiting else !cutover && !rinse
        deferred := s.se.deferred || s.se.paused }
      st := { s.st with txq := s.st.txq ++
        ((if cutover then [.frame (.mark s.sc.session (.cutoverBegin (BitVec.ofNat 8 (s.cvu.attempts + 1))))] else []) ++
          if cutover && decide (s.d = 0) then [.frame (.mark s.sc.session .cutoverEnd)] else []) }
      sc := { s.sc with
        state := if cutover then .cutover else .rinse
        holdTimer := if cutover then ⟨true, 0⟩ else s.sc.holdTimer }
      cvu := { s.cvu with attempts := if cutover then s.cvu.attempts + 1 else s.cvu.attempts }
      au := { s.au with latch := s.au.latch ||| Alert.passEnd.bit } } := by
  let u := (s.raise .passEnd).setSe { s.se with passNo := satSucc Config.max16 s.se.passNo }
  change (if s.se.paused then (u.setSe { u.se with deferred := true }).setState .rinse
    else if s.cvu.record.eligible && s.cvu.armed then u.enterCutover else (u.setState .rinse).rinseOrWait) = _
  cases hpa : s.se.paused with
  | true =>
    simp only [Bool.not_true, Bool.false_and, Bool.or_false, Bool.or_true, if_true, if_false, Bool.false_eq_true,
      List.append_nil]
    rfl
  | false =>
    cases hc : s.cvu.record.eligible && s.cvu.armed with
    | true =>
      rw [u.enterCutover_eq h hp]
      simp only [Bool.not_false, Bool.true_and, hc, Bool.not_true, Bool.false_and, Bool.or_false, Bool.or_true, if_true, if_false,
        Bool.false_eq_true, decide_eq_true_eq, Bool.false_or, List.singleton_append, Bool.not_false]
      rfl
    | false =>
      rw [State.rinseOrWait_eq]
      simp only [Bool.not_false, Bool.true_and, hc, Bool.false_and, Bool.or_false, if_false,
        Bool.false_eq_true, decide_eq_true_eq, Bool.false_or, List.append_nil]
      rfl

/-- A pass ends with room for its marks, as Safety says it (R73). -/
theorem State.passEnd_eq (h : s.st.txq.length < 60) (hp : s.st.pendingMarks = []) : s.passEnd = s.passEnded := by
  let marked : State := { s with
    se := { s.se with running := false }
    st := { s.st with txq := s.st.txq ++
      [.frame (.mark s.sc.session (.passEnd (BitVec.ofNat 16 s.se.passNo) (BitVec.ofNat 24 s.d)))] } }
  have hmark : (s.setSe { s.se with running := false }).appendMark
      (.passEnd (BitVec.ofNat 16 s.se.passNo) (BitVec.ofNat 24 s.d)) = marked :=
    State.appendMark_plain (s.setSe { s.se with running := false }) _ (Nat.lt_trans h (by omega)) hp
  have hlen : marked.st.txq.length < 61 := by
    simp only [marked, List.length_append, List.length_singleton]
    omega
  have hst : marked.takePassEnd.st = marked.st := by
    rw [State.takePassEnd_eq]
  rw [State.passEnd_recorded, hmark, State.passRecorded_eq _ (hst ▸ hlen) ((congrArg St.pendingMarks hst).trans hp),
    State.takePassEnd_eq]
  dsimp only
  rw [passEnd_alerts]
  simp only [marked, List.append_assoc, List.singleton_append]
  cases hpa : s.se.paused with
  | true =>
    simp only [State.passEnded, hpa, if_true]
    rfl
  | false =>
    simp only [State.passEnded, hpa, if_false, Bool.false_eq_true]
    rfl

end Sys2Proof.Machine

namespace Sys2Proof.Machine

open Sys2Proof

variable (s : State)

/-! ### The end of a pass or a round (R71, R72, R78) -/

/-- A running pass with no granule open is at its end: the plan is done in SWEEP, the map has been scanned in RINSE. -/
def State.passDone (s : State) : Prop :=
  s.sc.state = .sweep ∧ s.se.cursor.done = true ∨ s.sc.state = .rinse ∧ s.sc.params.span ≤ s.se.scanIdx

/-- The pass goes on where SE stands, or where there is more to visit (R71, R72). -/
theorem State.scanCheck_goes_on (h : s.sc.state = .sweep ∧ s.se.cursor.done = false ∨
    s.sc.state = .rinse ∧ s.se.scanIdx < s.sc.params.span ∨ s.se.running = false) : s.scanCheck = s := by
  obtain ⟨hs, hd⟩ | ⟨hs, hi⟩ | hr := h
  · simp [State.scanCheck, hs, hd]
  · simp [State.scanCheck, hs, Nat.not_le.2 hi]
  · exact s.scanCheck_idle (.inr hr)

/-- A pass at its end ends (R71, R72). -/
theorem State.scanCheck_done (ho : s.se.opened = none) (hr : s.se.running = true) (h : s.passDone) : s.scanCheck = s.passEnd := by
  obtain ⟨hs, hd⟩ | ⟨hs, hi⟩ := h
  · simp [State.scanCheck, ho, hr, hs, hd]
  · simp [State.scanCheck, ho, hr, hs, hi]

/-- The final scan stops at D 0, and goes round again at the end of the map (R78). -/
theorem State.scanCheck_cutover (ho : s.se.opened = none) (hr : s.se.running = true) (hs : s.sc.state = .cutover) :
    s.scanCheck = if s.d = 0 then s.finishScan
      else if s.sc.params.span ≤ s.se.scanIdx then s.setSe { s.se with scanIdx := 0 } else s := by
  simp [State.scanCheck, ho, hr, hs]

/-! ### The close of the open granule (R67) -/

/-- GM's answer to a close, by the table of R6. -/
theorem State.close_eq_gmClosed (r : OpenRecord)
    (h : s.entry r.granule = some .uncopied ∨ s.entry r.granule = some .dirty) :
    s.gm.close r.granule (s.entry r.granule) r.stale = s.gmClosed r := by
  unfold State.gmClosed
  obtain he | he := h
  · rw [he]
    cases r.stale <;> rfl
  · rw [he]
    cases r.stale <;> rfl

/-- The state at the close of a granule, before the pass or the round is judged. -/
def State.closed (s : State) (r : OpenRecord) : State :=
  { s with
    out := []
    gm := s.gmClosed r
    se := { s.se with opened := none }
    st := { s.st with txq := s.st.txq ++ [.frame (.close (BitVec.ofNat 24 r.granule) r.openNo)] } }

/-- GRANULE_CLOSE with the close due (R67). -/
theorem exec_granuleClose {s : State} {r : OpenRecord} (hp : s.phase = .running) (hw : s.sweeping = true)
    (ho : s.se.opened = some r) (hl : 1024 ≤ r.nextLine) (hq : s.st.txq.length < 48)
    (he : s.entry r.granule = some .uncopied ∨ s.entry r.granule = some .dirty) :
    exec .granuleClose s = .next (s.closed r).scanCheck := by
  have hdue : (s.setOut []).closeDue = some r := by
    have hw : (s.setOut []).sweeping = true := hw
    have hb : (s.setOut []).belowCeiling = true := decide_eq_true hq
    simp [State.closeDue, ho, hw, hb, Config.linesPerGranule, hl]
  have hrun : exec .granuleClose s = .next (s.setOut []).closeIfDue := event_running s State.closeIfDue hp
  rw [hrun, State.closeIfDue, hdue]
  dsimp only
  unfold State.closeGranule
  rw [State.appendTx_eq, if_neg (by simpa using by omega), State.closed, ← s.close_eq_gmClosed r he]
  rfl

end Sys2Proof.Machine

namespace Sys2Proof.Machine

open Sys2Proof

/-- Settles O16: the close itself, then what the pass or the round comes to. -/
theorem closeMovesEntry : Obligations.CloseMovesEntry := by
  unfold Obligations.CloseMovesEntry
  intro r s hp hw ho hl hq he
  have hlen : (s.closed r).st.txq.length < 60 := by
    simp only [State.closed, List.length_append, List.length_singleton]
    omega
  dsimp only
  rw [exec_granuleClose hp hw ho hl hq he]
  refine ⟨fun h => ?_, fun hs hr hm => ?_, fun h hr hm => ?_⟩
  · rw [(s.closed r).scanCheck_goes_on h]
    rfl
  · rw [(s.closed r).scanCheck_cutover rfl hr hs]
    by_cases hd : (s.closed r).d = 0
    · have hd' : (s.gmClosed r).census.uncopied + (s.gmClosed r).census.dirty = 0 := hd
      rw [if_pos hd, (s.closed r).finishScan_eq (Nat.lt_trans hlen (by omega)) hm]
      simp only [hd', Nat.lt_irrefl, decide_false, false_and, if_false, if_true, State.closed, List.append_assoc,
        List.singleton_append]
    · have hd' : (s.gmClosed r).census.uncopied + (s.gmClosed r).census.dirty ≠ 0 := hd
      rw [if_neg hd]
      simp only [hd', Nat.pos_of_ne_zero hd', decide_true, true_and, if_false, ← hr]
      by_cases hi : s.sc.params.span ≤ s.se.scanIdx
      · have hi' : (s.closed r).sc.params.span ≤ (s.closed r).se.scanIdx := hi
        rw [if_pos hi']
        simp only [hi, if_true]
        rfl
      · have hi' : ¬ (s.closed r).sc.params.span ≤ (s.closed r).se.scanIdx := hi
        rw [if_neg hi']
        simp only [hi, if_false]
        rfl
  · rw [(s.closed r).scanCheck_done rfl hr h, (s.closed r).passEnd_eq hlen hm]
    rfl

end Sys2Proof.Machine

/-! ## A REPLY at a SOURCE in HANDSHAKE -/

namespace Sys2Proof.Machine

open Sys2Proof

variable (s : State)

/-- PROTOCOL rises once for each record that is not loaded, and stops at its last value (R13, R185). -/
theorem State.countBadFences_eq (fs : List WireFence) (h : s.mgp.counters.protocol ≤ 16777215) :
    s.countBadFences fs = s.setMgp { s.mgp with counters := { s.mgp.counters with
      protocol := min 16777215 (s.mgp.counters.protocol + fs.countP fun f => f.judged.isNone) } } := by
  induction fs generalizing s with
  | nil =>
    simp only [List.countP_nil, Nat.add_zero, Nat.min_eq_right h]
    rfl
  | cons f fs ih =>
    unfold State.countBadFences
    cases hf : f.judged.isNone with
    | false => simp [ih _ h, hf]
    | true =>
      have hbump : (s.count .protocol).mgp.counters.protocol = min 16777215 (s.mgp.counters.protocol + 1) := rfl
      have hsum : min 16777215 (min 16777215 (s.mgp.counters.protocol + 1) + fs.countP fun f => f.judged.isNone) =
          min 16777215 (s.mgp.counters.protocol + (f :: fs).countP fun f => f.judged.isNone) := by
        simp only [List.countP_cons, hf, if_true]
        omega
      simp only [if_true]
      rw [ih _ (by omega), hbump, hsum]
      rfl

/-- A SOURCE with its pass 0 set up, before the pass is judged (R70, R130). -/
def State.passZeroBegun (s : State) (fs : List WireFence) (merged : List GranuleState) : State := { s with
  out := []
  gm := { s.gm with map := some merged, census := censusOf merged, nc := 0, nd := 0, ndNext := 0, peerFences := peerTable fs }
  se := { s.se with running := true, passTimer := 0, cursor := enterExtent s.se.plan s.sc.params.span 0 }
  sr := { s.sr with silent := ⟨true, 0, 0⟩ }
  sc := { s.sc with state := .sweep, handshake := ⟨false, s.sc.handshake.count⟩ }
  mgp := { s.mgp with counters := { s.mgp.counters with
    protocol := min 16777215 (s.mgp.counters.protocol + fs.countP fun f => f.judged.isNone) } } }

/-- The records of an accepting REPLY loaded and merged into a map (R13, R14). -/
theorem State.loadPeer_eq {m : List GranuleState} (fs : List WireFence) (hm : s.gm.map = some m)
    (hc : s.mgp.counters.protocol ≤ 16777215) : s.loadPeer fs =
      let merged := m.mapIdx fun i x => if fencesCover s.sc.params.span (peerTable fs) i then .excluded else x
      { s with
        gm := { s.gm with map := some merged, census := censusOf merged, peerFences := peerTable fs }
        mgp := { s.mgp with counters := { s.mgp.counters with
          protocol := min 16777215 (s.mgp.counters.protocol + fs.countP fun f => f.judged.isNone) } } } := by
  let u := s.setGm { s.gm with peerFences := peerTable fs }
  change (u.countBadFences fs).setGm ((u.countBadFences fs).gm.merge (u.countBadFences fs).sc.params.span) = _
  rw [u.countBadFences_eq fs hc]
  simp only [u, Gm.merge, State.setMgp, State.setGm, hm]

/-- An accepting REPLY starts pass 0 over the merged map (R70, R130). -/
theorem State.replyAccepted_eq {s : State} {m : List GranuleState} (fs : List WireFence) (hm : s.gm.map = some m)
    (hc : s.mgp.counters.protocol ≤ 16777215) : s.heard.replyAccepted fs = (s.passZeroBegun fs
      (m.mapIdx fun i x => if fencesCover s.sc.params.span (peerTable fs) i then .excluded else x)).scanCheck := by
  unfold State.replyAccepted
  rw [s.heard.loadPeer_eq fs hm hc]
  rfl

/-- A REPLY with the session number at a SOURCE in HANDSHAKE (R130, R131). -/
theorem exec_reply {s : State} {a : ReplyAnswer} {fs : List WireFence} (hp : s.phase = .running) (hl : s.sc.linkUp = true)
    (hs : s.sourceIn .handshake = true) (hfs : fs.length ≤ 8) :
    exec (.frameArrival (Frame.reply s.sc.session a fs).bytes) s = .next (s.heard.takeReply a fs) := by
  obtain ⟨hr, hst⟩ : s.heard.sc.role = .source ∧ s.heard.sc.state = .handshake := by
    simpa [State.sourceIn, State.heard] using hs
  rw [exec_frameArrival hp hl (parse_reply _ _ _ hfs), State.takeFrame, hr]
  exact congrArg _ (if_pos ⟨hst, rfl⟩)

end Sys2Proof.Machine

namespace Sys2Proof.Machine

open Sys2Proof

/-- Settles O27: a refusal ends the session, an acceptance comes to the judging of pass 0. -/
theorem replyMovesSession : Obligations.ReplyMovesSession := by
  unfold Obligations.ReplyMovesSession
  intro s hp hl hs
  have accepted : ∀ fs : List WireFence, fs.length ≤ 8 → exec (.frameArrival (Frame.reply s.sc.session .accept fs).bytes) s =
      .next (s.heard.replyAccepted fs) := fun fs hfs => exec_reply hp hl hs hfs
  refine ⟨fun a ha => ?_, fun fs m hfs hm hc => ⟨fun e rest he => ?_, fun he ho hpa hq hpm => ?_⟩⟩
  · have hrefused : s.heard.takeReply a [] = s.heard.replyRefused a := by
      cases a with
      | accept => exact absurd rfl ha
      | refuseSpan => rfl
      | refuseState => rfl
    rw [exec_reply (fs := []) hp hl hs (Nat.zero_le 8), hrefused, State.replyRefused, State.endSource_eq]
    rfl
  · rw [accepted fs hfs, State.replyAccepted_eq fs hm hc]
    rw [State.scanCheck_goes_on (s.passZeroBegun fs _) (.inl ⟨rfl, by simp [State.passZeroBegun, he, enterExtent]⟩)]
    simp only [State.passZeroBegun, he]
    rfl
  · rw [accepted fs hfs, State.replyAccepted_eq fs hm hc]
    rw [State.scanCheck_done (s.passZeroBegun fs _) ho rfl (.inl ⟨rfl, by simp [State.passZeroBegun, he, enterExtent]⟩),
      State.passEnd_eq (s.passZeroBegun fs _) (Nat.lt_trans hq (by omega)) hpm]
    simp only [State.passZeroBegun, he]
    rfl

end Sys2Proof.Machine

/-! ## HELLO at a TARGET -/

namespace Sys2Proof.Machine

open Sys2Proof

variable (s : State) (n : Byte) (span : BitVec 24) (q : BitVec 16)

/-- A TARGET that takes the copy stream, after it has refused a HELLO at the head: counted as a discard, the clean flag cleared,
SHADOW ended (R105, R107, R119). -/
def State.helloDiscarded (s : State) : State := { s.heard with
  mgp := { s.mgp with
    counters := { s.mgp.counters with discarded := min 16777215 (s.mgp.counters.discarded + 1) }
    event := s.captured .discard none (.frameKind 0x01) }
  sr := { s.heard.sr with clean := false }
  sc := { s.sc with
    state := .filling
    unsynced := s.sc.unsynced || (s.sc.state == .shadow && s.sc.takeoverPending) } }

/-- The same with the HELLO still at the head, its answer waiting for a place (R107, R117). -/
def State.helloWaits : State :=
  s.helloDiscarded.setSr { s.helloDiscarded.sr with buffer := [.hello n span q], head := some ⟨[.refuse n], none⟩ }

/-- The same with the answer placed and the slot freed (R107, R116). -/
def State.helloAnswered : State := { s.helloDiscarded with
  sr := { s.helloDiscarded.sr with freed := s.sr.freed + 1 }
  st := { s.st with returnList := s.st.returnList ++ [.reply n .refuseState []] } }

/-- A part that has left SHADOW by a discard is in FILLING. -/
theorem State.helloWaits_receiving (hr : s.receiving = true) : (s.helloWaits n span q).receiving = true := by
  have h : (s.helloWaits n span q).sc.role = .target := s.receiving_role hr
  simp [State.receiving, State.targetIn, h]
  exact .inl rfl

/-- A HELLO that enters an empty buffer with no claim to place is processed at once (R107, R108). -/
theorem State.enterBuffer_hello (hr : s.receiving = true) (hb : s.sr.buffer = []) (hh : s.sr.head = none)
    (hc : s.placeable = none) :
    s.heard.enterBuffer (.hello n span q) = State.pumpFor 17 (s.helloWaits n span q) := by
  let u := s.heard.setSr { s.heard.sr with buffer := [.hello n span q] }
  have hur : u.receiving = true := hr
  have hentered : s.heard.enterBuffer (.hello n span q) = State.pumpFor 18 u := by
    have hb' : s.heard.sr.buffer = [] := hb
    simp [State.enterBuffer, hb', State.pump, Config.bufferSlots, Config.returnPlaces, u]
  have huc : u.placeable = none := hc
  have huu : u.unprocessed = some (.hello n span q) := by
    have huh : u.sr.head = none := hh
    simp [State.unprocessed, hur, huh]
    rfl
  have hprocessed : u.processHead (.hello n span q) = s.helloWaits n span q := by
    have hdr : (u.discard (.hello n span q)).receiving = true := hr
    simp only [State.processHead, hur, if_true, State.discardTarget, State.clearClean_receiving _ hdr]
    rfl
  rw [hentered, State.pumpFor, huc, huu]
  dsimp only
  rw [hprocessed]

end Sys2Proof.Machine

namespace Sys2Proof.Machine

open Sys2Proof

variable (s : State) (n : Byte) (span : BitVec 24) (q : BitVec 16)

/-- At a full return list the HELLO waits at the head (R107, R117). -/
theorem State.enterBuffer_hello_full (hr : s.receiving = true) (hb : s.sr.buffer = []) (hh : s.sr.head = none)
    (hf : 16 ≤ s.st.returnList.length) : s.heard.enterBuffer (.hello n span q) = s.helloWaits n span q := by
  have full : ∀ u : State, u.st = s.st → u.placeable = none := fun u hu => by
    rw [State.placeable, hu]
    exact if_neg (Nat.not_lt.2 hf)
  rw [s.enterBuffer_hello n span q hr hb hh (full s rfl)]
  refine State.pumpFor_settled _ _ (full _ rfl) ?_
  simp [State.unprocessed, State.helloWaits]

/-- With a place in the return list the HELLO is answered and its slot freed (R107, R116, R117). -/
theorem State.enterBuffer_hello_answered (hs : s.listening) :
    s.heard.enterBuffer (.hello n span q) = s.helloAnswered n := by
  obtain ⟨_, _, hr, hb, hh, hfa, hcd, htw, hfr, hrl⟩ := hs
  have hwr : (s.helloWaits n span q).receiving = true := s.helloWaits_receiving n span q hr
  have hclaim : (s.helloWaits n span q).placeable = some (.answer (.refuse n)) := by
    have h1 : (s.helloWaits n span q).st.returnList.length < 16 := Nat.lt_succ_of_lt hrl
    have h2 : (s.helloWaits n span q).sc.takenWaiting = false := htw
    have h3 : (s.helloWaits n span q).sr.failedApply = [] := hfa
    have h4 : (s.helloWaits n span q).sr.head = some ⟨[.refuse n], none⟩ := rfl
    simp [State.placeable, State.firstClaim, Config.returnPlaces, h1, h2, h3, h4, hwr]
  have hplaced : (s.helloWaits n span q).appendClaim (.answer (.refuse n)) = s.helloAnswered n := by
    let v := ((s.helloWaits n span q).appendReturn (.reply n .refuseState [])).setSr
      { (s.helloWaits n span q).sr with buffer := [], head := none }
    have hvr : v.receiving = true := hwr
    change v.freeSlot = _
    have hfreed : satSucc Config.bufferSlots s.sr.freed = s.sr.freed + 1 := by
      simp [satSucc, Config.bufferSlots]
      omega
    have hdue : (s.sr.creditDue || s.sr.freed + 1 == Config.creditThreshold) = false := by
      simp [hcd, Config.creditThreshold]
      omega
    have hv1 : v.sr.freed = s.sr.freed := rfl
    have hv2 : v.sr.creditDue = s.sr.creditDue := rfl
    rw [State.freeSlot, if_pos hvr, State.raiseFreed, hv1, hv2, hfreed, hdue]
    simp only [v, State.helloAnswered, State.helloDiscarded, State.helloWaits, State.heard, State.setSr, State.appendReturn,
      State.setSt, hb, hh, hcd]
  have hnone : s.placeable = none := by
    simp [State.placeable, State.firstClaim, htw, hfa, hh, hcd]
  rw [s.enterBuffer_hello n span q hr hb hh hnone, State.pumpFor, hclaim]
  dsimp only
  rw [hplaced]
  have hab : (s.helloAnswered n).sr.buffer = [] := hb
  have hah : (s.helloAnswered n).sr.head = none := hh
  refine State.pumpFor_settled _ _ ?_ ?_
  · have h2 : (s.helloAnswered n).sc.takenWaiting = false := htw
    have h3 : (s.helloAnswered n).sr.failedApply = [] := hfa
    have h4 : (s.helloAnswered n).sr.creditDue = false := hcd
    simp [State.placeable, State.firstClaim, h2, h3, h4, hah]
  · simp [State.unprocessed, hab, hah]

/-- A HELLO at a TARGET comes to its state (R107). -/
theorem exec_hello {s : State} {n : Byte} {span : BitVec 24} {q : BitVec 16} (hp : s.phase = .running)
    (hl : s.sc.linkUp = true) (hr : s.sc.role = .target) :
    exec (.frameArrival (Frame.hello n span q).bytes) s = .next (s.heard.targetFrame (.hello n span q)) := by
  have hr' : s.heard.sc.role = .target := hr
  rw [exec_frameArrival hp hl (parse_hello n span q), State.takeFrame, hr']

end Sys2Proof.Machine

namespace Sys2Proof.Machine

open Sys2Proof

/-- Settles O29: by the TARGET's state, and in FILLING and SHADOW by the claims of the head. -/
theorem helloAtTarget : Obligations.HelloAtTarget := by
  unfold Obligations.HelloAtTarget
  intro n span q s hp hl
  dsimp only
  have inState : ∀ x, s.targetIn x = true → s.sc.role = .target ∧ s.heard.sc.state = x := fun x h => by
    simpa [State.targetIn, State.heard] using h
  have listens : s.targetIn .listen = true → exec (.frameArrival (Frame.hello n span q).bytes) s =
      .next (s.heard.helloInListen (.hello n span q) n span q) := fun h => by
    obtain ⟨hr, hs⟩ := inState _ h
    rw [exec_hello hp hl hr, State.targetFrame, hs]
  have receives : s.receiving = true → exec (.frameArrival (Frame.hello n span q).bytes) s =
      .next (s.heard.enterBuffer (.hello n span q)) := fun h => by
    have hs : s.heard.sc.state = .filling ∨ s.heard.sc.state = .shadow := by
      obtain h | h := Bool.or_eq_true .. ▸ h
      · exact .inl (inState _ h).2
      · exact .inr (inState _ h).2
    rw [exec_hello hp hl (s.receiving_role h), State.targetFrame]
    obtain hs | hs := hs
    · rw [hs]
    · rw [hs]
  refine ⟨fun h hroom hspan => ?_, fun h hroom hspan => ?_, fun h hfull => ?_, fun h => ?_,
    fun h hb hh => ⟨fun hfull => ?_, fun hw => ?_⟩⟩
  · rw [listens h]
    exact congrArg _ ((if_neg (Nat.not_le.2 hroom)).trans (if_pos hspan))
  · rw [listens h]
    exact congrArg _ ((if_neg (Nat.not_le.2 hroom)).trans (if_neg hspan))
  · rw [listens h]
    exact congrArg _ (if_pos hfull)
  · obtain ⟨hr, hs⟩ := inState _ h
    have hst : (s.heard.discard (.hello n span q)).st = s.st := rfl
    rw [exec_hello hp hl hr, State.targetFrame, hs]
    simp only [State.helloInFault, hst, Config.returnPlaces]
    by_cases hroom : s.st.returnList.length < 16
    · simp only [hroom, if_true]
      rfl
    · simp only [hroom, if_false]
      rfl
  · rw [receives h, s.enterBuffer_hello_full n span q h hb hh hfull]
    rfl
  · rw [receives h, s.enterBuffer_hello_answered n span q hw]
    rfl

end Sys2Proof.Machine

/-! ## Fences and the writes that a TARGET refuses -/

namespace Sys2Proof.Machine

open Sys2Proof

/-! ### What a fence covers (R11) -/

/-- A record covers a granule of the image in its run, or outside it with invert. -/
theorem Fence.covers_iff (span g : Nat) (f : Fence) : f.covers span g = true ↔
    g < span ∧ ((f.first ≤ g ∧ g < f.first + f.length) ↔ f.invert = false) := by
  simp only [Fence.covers, Fence.inRun, Bool.and_eq_true, decide_eq_true_eq, bne_iff_ne, ne_eq]
  refine and_congr_right fun _ => ?_
  cases f.invert with
  | false => simp
  | true => simp

theorem fencesCover_iff (span g : Nat) (slots : List (Option Fence)) : fencesCover span slots g = true ↔
    ∃ f, some f ∈ slots ∧ f.covers span g = true := by
  simp only [fencesCover, List.any_eq_true]
  constructor
  · rintro ⟨slot, hmem, h⟩
    cases slot with
    | none => cases h
    | some f => exact ⟨f, hmem, h⟩
  · rintro ⟨f, hmem, h⟩
    exact ⟨some f, hmem, h⟩

/-! ### The refusal of a head (R28) -/

/-- The state after the refusal of a head write, with what stood behind it at the head. -/
def State.writeRefused (s : State) (tag : Fin 64) (a : LineAddr) (rest : List ClientRequest) : State := { s with
  out := s.out ++ [.clientResponse tag.val .doneRefused, .clientCredits 1]
  cp := { s.cp with queue := rest, credits := s.cp.credits + 1 }
  mgp := { s.mgp with
    counters := { s.mgp.counters with refusedWrites := min 16777215 (s.mgp.counters.refusedWrites + 1) }
    event := s.captured .refusedWrite (some (a.toNat / 1024)) (.lineAddr a.toNat) } }

/-- A head write outside the fences of a fenced TARGET is refused; the request behind it stands where it is not refused as well. -/
theorem State.judgeHead_refuses (s : State) {tag : Fin 64} {a : LineAddr} {m : ByteMask} {d : LineData}
    {rest : List ClientRequest} (hf : s.fencing = true) (hq : s.cp.queue = .write tag a m d :: rest)
    (hc : s.localCovers (a.toNat / 1024) = false) (hn : (s.setCp { s.cp with queue := rest }).headRefused = false) :
    s.judgeHead = s.writeRefused tag a rest := by
  have hc' : s.localCovers (granuleOf a.toNat) = false := hc
  have hrefused : s.refuseHead tag.val a = s.writeRefused tag a rest := by
    simp only [State.refuseHead, State.setCp, hq, List.tail_cons, State.emit, State.returnCredit, State.setOut,
      List.append_assoc, List.singleton_append]
    rfl
  have hfor : ∀ n, State.judgeFor (n + 1) s = State.judgeFor n (s.writeRefused tag a rest) := fun n => by
    rw [State.judgeFor, hq]
    dsimp only
    rw [hf, hc', if_pos (by rfl), hrefused]
  have hstands : (s.writeRefused tag a rest).judgeHead = s.writeRefused tag a rest := State.judgeHead_stands _ hn
  rw [State.judgeHead, hq, List.length_cons, hfor]
  exact hstands

/-! ### Requests that arrive and are granted (R21, R31, R36) -/

/-- A fenced part is a TARGET. -/
theorem State.fencing_role (s : State) (h : s.fencing = true) : s.sc.role = .target := by
  simp only [State.fencing, State.receiving, State.targetIn, Bool.or_eq_true, Bool.and_eq_true, beq_iff_eq] at h
  obtain (⟨hr, _⟩ | ⟨hr, _⟩ | ⟨hr, _⟩) | ⟨hr, _⟩ := h <;> exact hr

/-- A request with a free tag joins the queue, and the head is judged (R21, R28). -/
theorem exec_clientRequestArrival {s : State} {r : ClientRequest} (hp : s.phase = .running) (hq : s.cp.queue.length < 32)
    (ht : r.tagNo ∉ s.tagsInUse) : exec (.clientRequestArrival r) s = .next
      ((s.setOut []).setCp { s.cp with queue := s.cp.queue ++ [r], credits := s.cp.credits - 1 }).judgeHead := by
  have hrun : exec (.clientRequestArrival r) s = .next ((s.setOut []).arrive r) := event_running s (·.arrive r) hp
  have htag : ¬ (s.setOut []).tagOutstanding r.tagNo = true := fun h => ht (((s.setOut []).tagOutstanding_iff _).1 h)
  rw [hrun]
  exact congrArg _ ((if_neg (Nat.not_le.2 hq)).trans (if_neg htag))

/-- The head request has gone to the memory side, before the next head is judged (R24, R31). -/
def State.clientGranted (s : State) (r : ClientRequest) (rest : List ClientRequest) : State := { s with
  out := [.clientCredits 1, .memRequest r.tagNo r.toMemory]
  cp := { s.cp with queue := rest, credits := s.cp.credits + 1 }
  mp := { s.mp with credits := s.mp.credits - 1, table := s.mp.table ++ [⟨r.tagNo, .client, r.kind, r.line⟩] } }

/-- The uncontested grant of the CLIENT class to a part whose WCU does not act (R31, R36, R42). -/
theorem exec_arbitration_client {s : State} {r : ClientRequest} {rest : List ClientRequest} (hp : s.phase = .running)
    (hm : 0 < s.mp.credits) (hq : s.cp.queue = r :: rest) (hh : s.cp.hold = false) (hst : s.shadowStall = false)
    (ho : s.ownReady = none) (hw : s.captureActs = false) :
    exec .arbitration s = .next (s.clientGranted r rest).judgeHead := by
  have hrun : exec .arbitration s = .next (s.setOut []).arbitrate := event_running s State.arbitrate hp
  have hready : (s.setOut []).clientReady = true := by
    have hst' : (s.setOut []).shadowStall = false := hst
    simp [State.clientReady, hq, hh, hst']
  have hown : (s.setOut []).ownReady = none := ho
  have hhead : (s.setOut []).cp.queue.head? = some r := by
    rw [State.setOut_cp, hq, List.head?_cons]
  have hnotice : (s.clientGranted r rest).noticeGrant r = s.clientGranted r rest := by
    have hw' : (s.clientGranted r rest).captureActs = false := hw
    cases r with
    | read => rfl
    | write => simp [State.noticeGrant, State.captureNotice, hw']
  have hgranted : (s.setOut []).grantClient r = ((s.clientGranted r rest).noticeGrant r).judgeHead := by
    simp only [State.grantClient, State.setOut_cp, hq, List.tail_cons]
    rfl
  have hm' : (s.setOut []).mp.credits ≠ 0 := Nat.ne_of_gt hm
  rw [hrun, State.arbitrate, if_neg hm', hhead, hown]
  dsimp only
  rw [if_pos hready, hgranted, hnotice]

end Sys2Proof.Machine

namespace Sys2Proof.Machine

open Sys2Proof

/-- Settles O5: what a record covers, then the one refusal at each of the events by which a write becomes the head. -/
theorem uncoveredWriteRefused : Obligations.UncoveredWriteRefused := by
  unfold Obligations.UncoveredWriteRefused
  refine ⟨fun span g slots => ?_, fun tag a m d rest s hp hc => ⟨fun hf hq hcr ht => ?_, fun r hf hm hq hh ho hn => ?_,
    fun ha hr hs hspan hq hn => ?_⟩⟩
  · simp only [fencesCover_iff, Fence.covers_iff]
    constructor
    · rintro ⟨f, hmem, hg, hiff⟩
      exact ⟨hg, f, hmem, hiff⟩
    · rintro ⟨hg, f, hmem, hiff⟩
      exact ⟨f, hmem, hg, hiff⟩
  · have hlen : s.cp.queue.length < 32 := by simp [hq]
    let u := (s.setOut []).setCp { s.cp with queue := s.cp.queue ++ [.write tag a m d], credits := s.cp.credits - 1 }
    have hqu : u.cp.queue = [.write tag a m d] := by simp [u, hq]
    rw [exec_clientRequestArrival (r := .write tag a m d) hp hlen ht, u.judgeHead_refuses (rest := []) hf hqu hc]
    · simp only [u, State.writeRefused, State.setCp, State.setOut, Nat.sub_add_cancel hcr, ← hq]
      rfl
    · simp [State.headRefused]
  · have hrole := s.fencing_role hf
    have hstall : s.shadowStall = false := by simp [State.shadowStall, State.sourceIn, hrole]
    have hacts : s.captureActs = false := by simp [State.captureActs, State.sourceIn, hrole]
    rw [exec_arbitration_client hp hm hq hh hstall ho hacts, State.judgeHead_refuses (s.clientGranted r _) hf rfl hc hn]
    rfl
  · have hfenced : (s.setOut []).listenOpened.fencing = true := by
      have hrole : (s.setOut []).listenOpened.sc.role = .target := hr
      have hstate : (s.setOut []).listenOpened.sc.state = .listen := rfl
      simp [State.fencing, State.targetIn, hrole, hstate]
    rw [exec_listen hp ha hr hs hspan, State.judgeHead_refuses _ hfenced hq hc hn]
    simp only [State.finish_eq, Bool.not_true, Bool.and_false]
    rfl

end Sys2Proof.Machine

/-! ## NEED and LOSS at a SOURCE -/

namespace Sys2Proof.Machine

open Sys2Proof

variable (s : State)

/-! ### What each answer to a MARK-DIRTY sets going (R7, R10, R18) -/

theorem State.markDirty_copied {g : Nat} (he : s.entry g = some .copied) (ho : s.isOpen g = false) :
    s.markOutcome g = .dirtied ∧ s.markDirty g = s.dirty g := by
  have h : s.markOutcome g = .dirtied := by simp [State.markOutcome, he, ho]
  exact ⟨h, by simp [State.markDirty, h]⟩

theorem State.markDirty_open {g : Nat} (he : s.entry g = some .uncopied ∨ s.entry g = some .dirty) (ho : s.isOpen g = true) :
    s.markOutcome g = .stale ∧ s.markDirty g = s.markStale := by
  have h : s.markOutcome g = .stale := by
    obtain he | he := he
    · simp [State.markOutcome, he, ho]
    · simp [State.markOutcome, he, ho]
  exact ⟨h, by simp [State.markDirty, h]⟩

theorem State.markDirty_uncopied {g : Nat} (he : s.entry g = some .uncopied ∨ s.entry g = some .dirty)
    (ho : s.isOpen g = false) : s.markOutcome g = .unchanged ∧ s.markDirty g = s := by
  have h : s.markOutcome g = .unchanged := by
    obtain he | he := he
    · simp [State.markOutcome, he, ho]
    · simp [State.markOutcome, he, ho]
  exact ⟨h, by simp [State.markDirty, h]⟩

theorem State.markDirty_absent {g : Nat} (he : s.entry g = none ∨ s.entry g = some .excluded) :
    (s.markOutcome g = .outside ∨ s.markOutcome g = .excluded) ∧ s.markDirty g = s := by
  obtain he | he := he
  · have h : s.markOutcome g = .outside := by simp [State.markOutcome, he]
    exact ⟨.inl h, by simp [State.markDirty, h]⟩
  · have h : s.markOutcome g = .excluded := by simp [State.markOutcome, he]
    exact ⟨.inr h, by simp [State.markDirty, h]⟩

/-- The map, the census and the counts move as Safety says (R9, R10, R150). -/
theorem State.gm_dirtied (g : Nat) : s.gm.dirtied g s.se.betweenPasses = s.gmDirtied g := Gm.dirtied_eq _ _ _

/-- SYNC_LOST with room for its mark (R174). -/
theorem State.syncLost_eq (h : s.st.txq.length < 62) (hp : s.st.pendingMarks = []) : s.syncLost = { s with
    gm := { s.gm with nc := 0, nd := 0, ndNext := 0 }
    se := s.seRinsing
    st := { s.st with txq := s.st.txq ++ [.frame (.mark s.sc.session .syncLost)] }
    sc := { s.sc with state := .rinse }
    cvu := { s.cvu with attempts := 0 }
    au := { s.au with latch := s.au.latch ||| 0x040#12 } } := by
  rw [State.syncLost, s.appendMark_plain _ h hp]
  rfl

/-- Outside SHADOW a transition that wakes no wait changes GM alone (R7, R74). -/
theorem State.dirty_rests (g : Nat) (hs : s.sourceIn .shadow = false) (hw : s.d = 0 → s.se.waiting = false ∨ s.se.paused = true) :
    s.dirty g = s.setGm (s.gmDirtied g) := by
  have hwake : s.d = 0 → (s.setGm (s.gmDirtied g)).wake = s.setGm (s.gmDirtied g) := fun hd => by
    unfold State.wake
    obtain h | h := hw hd
    · simp [h]
    · simp [h]
  rw [State.dirty, hs, s.gm_dirtied]
  by_cases hd : s.d = 0
  · simp only [hd, if_true, hwake hd]
    rfl
  · simp only [hd, if_false]
    rfl

/-- Outside SHADOW a transition from D 0 wakes a WAITING SOURCE that is not PAUSED (R74). -/
theorem State.dirty_wakes (g : Nat) (hs : s.sourceIn .shadow = false) (hd : s.d = 0) (hw : s.se.waiting = true)
    (hp : s.se.paused = false) :
    s.dirty g = { s with gm := { s.gmDirtied g with nc := 0, nd := 0 }, se := s.seRinsing } := by
  have hwake : (s.setGm (s.gmDirtied g)).wake = (s.setGm (s.gmDirtied g)).startRinse := by
    simp [State.wake, hw, hp]
  rw [State.dirty, hs, s.gm_dirtied, if_pos hd, hwake]
  rfl

/-- In SHADOW a transition raises SYNC_LOST (R18, R174). -/
theorem State.dirty_shadow (g : Nat) (hs : s.sourceIn .shadow = true) (h : s.st.txq.length < 62)
    (hp : s.st.pendingMarks = []) : s.dirty g = { s with
      gm := { s.gmDirtied g with nc := 0, nd := 0, ndNext := 0 }
      se := s.seRinsing
      st := { s.st with txq := s.st.txq ++ [.frame (.mark s.sc.session .syncLost)] }
      sc := { s.sc with state := .rinse }
      cvu := { s.cvu with attempts := 0 }
      au := { s.au with latch := s.au.latch ||| 0x040#12 } } := by
  rw [State.dirty, hs, s.gm_dirtied, if_pos rfl]
  by_cases hw : s.d = 0 ∧ (s.se.waiting && !s.se.paused) = true
  · have hwake : (s.setGm (s.gmDirtied g)).wake = (s.setGm (s.gmDirtied g)).startRinse := if_pos hw.2
    rw [if_pos hw.1, hwake]
    exact (s.setGm (s.gmDirtied g)).startRinse.syncLost_eq h hp
  · have hrests : (if s.d = 0 then (s.setGm (s.gmDirtied g)).wake else s.setGm (s.gmDirtied g)) = s.setGm (s.gmDirtied g) := by
      split
      · exact if_neg fun h => hw ⟨‹_›, h⟩
      · rfl
    rw [hrests]
    exact (s.setGm (s.gmDirtied g)).syncLost_eq h hp

/-! ### A NEED (R98, R99) -/

/-- A NEED of a granule with an answer. -/
theorem State.takeNeed_answered {g : Nat} (hr : s.sc.releasePending = false) (ho : s.markOutcome g ≠ .outside)
    (he : s.markOutcome g ≠ .excluded) :
    s.takeNeed g = ((s.count .needs).markDirty g).capture .need (some g) .absent := by
  have hr' : (s.count .needs).sc.releasePending = false := hr
  simp [State.takeNeed, State.streamDirty, hr, hr', ho, he]

/-- A NEED of a granule outside the map, or EXCLUDED. -/
theorem State.takeNeed_absent {g : Nat} (hr : s.sc.releasePending = false)
    (he : s.entry g = none ∨ s.entry g = some .excluded) :
    s.takeNeed g = ((s.count .needs).count .protocol).capture .need (some g) .absent := by
  have hr' : (s.count .needs).sc.releasePending = false := hr
  obtain ⟨hout, -⟩ := s.markDirty_absent he
  obtain ⟨-, hmark⟩ := (s.count .needs).markDirty_absent he
  simp only [State.takeNeed, State.streamDirty, hr, hr', hmark]
  obtain hout | hout := hout
  · simp [hout]
  · simp [hout]

/-- A NEED after the acceptance of DETACH. -/
theorem State.takeNeed_released (g : Nat) (hr : s.sc.releasePending = true) :
    s.takeNeed g = (s.count .needs).capture .need (some g) .absent := by
  have hr' : (s.count .needs).sc.releasePending = true := hr
  simp [State.takeNeed, State.streamDirty, hr, hr']

/-- A sending SOURCE is a SOURCE. -/
theorem State.sending_role (h : s.sending = true) : s.sc.role = .source := by
  simp only [State.sending, Bool.and_eq_true, beq_iff_eq] at h
  exact h.1

/-- A NEED in a sending state (R98, R122). -/
theorem exec_need {s : State} {g : BitVec 24} (hp : s.phase = .running) (hl : s.sc.linkUp = true) (hs : s.sending = true) :
    exec (.frameArrival (Frame.need g).bytes) s = .next (s.heard.takeNeed g.toNat) := by
  have hr : s.heard.sc.role = .source := s.sending_role hs
  rw [exec_frameArrival hp hl (parse_need g), State.takeFrame, hr]
  exact congrArg _ (if_pos hs)

/-- A LOSS in a sending state (R97, R122). -/
theorem exec_loss {s : State} {e d : BitVec 16} (hp : s.phase = .running) (hl : s.sc.linkUp = true) (hs : s.sending = true) :
    exec (.frameArrival (Frame.loss e d).bytes) s = .next (s.heard.takeLoss e d) := by
  have hr : s.heard.sc.role = .source := s.sending_role hs
  rw [exec_frameArrival hp hl (parse_loss e d), State.takeFrame, hr]
  exact congrArg _ (if_pos hs)

/-! ### A LOSS (R97) -/

/-- What marking granules that meet `P` dirty keeps, and what it makes of them. -/
structure Marked (P : Nat → Prop) (s t : State) : Prop where
  mrl : t.st.mrl = s.st.mrl
  losses : t.mgp.counters.losses = s.mgp.counters.losses
  releasePending : t.sc.releasePending = s.sc.releasePending
  isOpen : ∀ g, t.isOpen g = s.isOpen g
  kept : ∀ g, ¬ P g → t.entry g = s.entry g
  notCopied : ∀ g, s.entry g ≠ some .copied → t.entry g ≠ some .copied
  ended : ∀ g, P g → s.isOpen g = false → t.entry g ≠ some .copied

/-- Marking dirty in two steps. -/
theorem Marked.trans {P Q R : Nat → Prop} {s t u : State} (h : Marked P s t) (k : Marked Q t u)
    (hR : ∀ g, R g ↔ P g ∨ Q g) : Marked R s u where
  mrl := k.mrl.trans h.mrl
  losses := k.losses.trans h.losses
  releasePending := k.releasePending.trans h.releasePending
  isOpen g := (k.isOpen g).trans (h.isOpen g)
  kept g hg := by
    obtain ⟨hp, hq⟩ := not_or.1 (mt (hR g).2 hg)
    exact (k.kept g hq).trans (h.kept g hp)
  notCopied g hg := k.notCopied g (h.notCopied g hg)
  ended g hg ho := by
    obtain hp | hq := (hR g).1 hg
    · exact k.notCopied g (h.ended g hp ho)
    · exact k.ended g hq ((h.isOpen g).trans ho)

/-- Nothing is marked. -/
theorem Marked.refl {P : Nat → Prop} (h : ∀ g, P g → s.isOpen g = false → s.entry g ≠ some .copied) : Marked P s s :=
  ⟨rfl, rfl, rfl, fun _ => rfl, fun _ _ => rfl, fun _ h => h, h⟩

/-- What `Marked` reads of a state. -/
def State.markView (s : State) : Option (List GranuleState) × Option OpenRecord × Bool × List MirrorRecord × Nat :=
  (s.gm.map, s.se.opened, s.sc.releasePending, s.st.mrl, s.mgp.counters.losses)

/-- A mark of SYNC_LOST, placed, waiting or dropped, leaves them (R89). -/
theorem State.markView_appendMark : (s.appendMark .syncLost).markView = s.markView := by
  unfold State.appendMark
  split
  · rw [State.appendTx_eq]
    rfl
  · split
    · rfl
    · have hdropped : s.dropMark .syncLost = (s.count .discarded).capture .discard none (.markKind MarkKind.syncLost.code) :=
        rfl
      rw [hdropped]
      rfl

theorem State.markView_syncLost : s.syncLost.markView = s.markView := by
  have h := s.markView_appendMark
  unfold State.syncLost
  generalize s.appendMark .syncLost = u at h
  exact h

theorem State.markView_wake : s.wake.markView = s.markView := by
  unfold State.wake
  split
  · rfl
  · rfl

/-- Whatever follows a transition into DIRTY leaves them as the transition does. -/
theorem State.markView_dirty (g : Nat) : (s.dirty g).markView = (s.setGm (s.gmDirtied g)).markView := by
  have hwoken : (if s.d = 0 then (s.setGm (s.gmDirtied g)).wake else s.setGm (s.gmDirtied g)).markView =
      (s.setGm (s.gmDirtied g)).markView := by
    split
    · exact State.markView_wake _
    · rfl
  rw [State.dirty, s.gm_dirtied]
  split
  · rw [State.markView_syncLost, hwoken]
  · exact hwoken

/-- A transition marks its granule. -/
theorem Marked.dirty {g : Nat} (he : s.entry g = some .copied) : Marked (· = g) s (s.dirty g) := by
  have hview := s.markView_dirty g
  simp only [State.markView, Prod.mk.injEq] at hview
  obtain ⟨hmap, hopened, hrel, hmrl, hloss⟩ := hview
  have hentry : ∀ i, (s.dirty g).entry i = if g = i then some .dirty else s.entry i := fun i => by
    rw [← entry_move s .dirty he (s.gmDirtied g) rfl i, State.entry, State.entry, hmap]
  refine ⟨hmrl, hloss, hrel, fun i => ?_, fun i hi => ?_, fun i hi => ?_, fun i hi _ => ?_⟩
  · rw [State.isOpen, hopened]
    rfl
  · rw [hentry, if_neg (Ne.symm hi)]
  · rw [hentry]
    split
    · simp
    · exact hi
  · rw [hentry, if_pos hi.symm]
    simp

/-- A stale mark is for the open granule. -/
theorem Marked.markStale {g : Nat} (ho : s.isOpen g = true) : Marked (· = g) s s.markStale := by
  have hopen : ∀ i, s.markStale.isOpen i = s.isOpen i := fun i => by
    simp only [State.isOpen, State.markStale_eq, State.setSe_se]
    cases s.se.opened <;> rfl
  refine ⟨rfl, rfl, rfl, hopen, fun _ _ => rfl, fun _ h => h, fun i hi hc => ?_⟩
  rw [hi, ho] at hc
  cases hc

/-- MARK-DIRTY marks its granule, or has nothing to mark (R7). -/
theorem Marked.markDirty (g : Nat) : Marked (· = g) s (s.markDirty g) := by
  obtain ⟨ho, h⟩ | ⟨ho, h⟩ | ⟨hd, hs, h⟩ := s.markDirty_cases g
  · rw [h]
    exact .dirty s (s.markOutcome_dirtied ho).1
  · rw [h]
    exact .markStale s (s.markOutcome_stale ho).1
  · rw [h]
    refine .refl s fun i hi ho he => hd ?_
    rw [hi] at he ho
    exact (s.markDirty_copied he ho).1

/-- The granules of records are marked, in a part that has accepted no DETACH (R97, R99). -/
theorem Marked.dirtyRecords (rs : List MirrorRecord) (hr : s.sc.releasePending = false) :
    Marked (fun g => ∃ r ∈ rs, r.granule = g) s (s.dirtyRecords rs) := by
  induction rs generalizing s with
  | nil => exact .refl s fun g hg => absurd hg (by simp)
  | cons r rs ih =>
    have hfirst : s.streamDirty r.granule = s.markDirty r.granule := by simp [State.streamDirty, hr]
    have hstep := Marked.markDirty s r.granule
    rw [State.dirtyRecords, hfirst]
    refine hstep.trans (ih _ (hstep.releasePending.trans hr)) fun g => ?_
    simp [eq_comm]

/-- From the acceptance of DETACH nothing is marked (R99). -/
theorem State.dirtyRecords_released (rs : List MirrorRecord) (hr : s.sc.releasePending = true) : s.dirtyRecords rs = s := by
  induction rs with
  | nil => rfl
  | cons r rs ih =>
    rw [State.dirtyRecords, State.streamDirty, if_pos hr, ih]

/-- The records a LOSS names (R97). -/
theorem lossNames_eq {e d : BitVec 16} (mrl : List MirrorRecord) (h0 : d ≠ 0) (hd : d.toNat < 32768) :
    lossNames e d mrl = mrl.filter fun r => decide ((r.seq - e).toNat < d.toNat) :=
  if_neg fun h => h.elim h0 (Nat.not_le.2 hd)

/-- A LOSS that names records, or names none of those that stand (R97). -/
theorem State.takeLoss_named {e d : BitVec 16} (h0 : d ≠ 0) (hd : d.toNat < 32768) : s.takeLoss e d =
    ((s.count .losses).dirtyRecords (s.st.mrl.filter fun r => decide ((r.seq - e).toNat < d.toNat))).capture .loss
      ((s.st.mrl.find? fun r => decide ((r.seq - e).toNat < d.toNat)).map (·.granule)) (.sequence e) := by
  have hbad : ¬ (d = 0 ∨ 32768 ≤ d.toNat) := fun h => h.elim h0 (Nat.not_le.2 hd)
  simp only [State.takeLoss, lossNames_eq _ h0 hd, if_neg hbad, List.head?_filter]

/-- A LOSS with a count out of range names nothing (R97). -/
theorem State.takeLoss_bad {e d : BitVec 16} (h : d = 0 ∨ 32768 ≤ d.toNat) : s.takeLoss e d =
    ((s.count .losses).count .protocol).capture .loss none (.sequence e) := by
  simp only [State.takeLoss, lossNames, if_pos h]
  rfl

end Sys2Proof.Machine

namespace Sys2Proof.Machine

open Sys2Proof

/-- Settles O25: a NEED by the answer to its MARK-DIRTY, a LOSS by the records it names. -/
theorem needAndLossTaken : Obligations.NeedAndLossTaken := by
  unfold Obligations.NeedAndLossTaken
  refine ⟨fun g s hp hl hs => ?_, fun e d s hp hl hs => ?_⟩
  · let c := s.heard.count .needs
    have hanswered : s.sc.releasePending = false → s.markOutcome g.toNat ≠ .outside → s.markOutcome g.toNat ≠ .excluded →
        s.heard.takeNeed g.toNat = (c.markDirty g.toNat).capture .need (some g.toNat) .absent := s.heard.takeNeed_answered
    dsimp only
    rw [exec_need hp hl hs]
    refine ⟨fun hr => ?_, fun hr => ⟨fun he ho => ?_, fun ho he => ?_, fun ho he => ?_, fun he => ?_⟩⟩
    · rw [s.heard.takeNeed_released _ hr]
      rfl
    · have hout := (s.markDirty_copied he ho).1
      have hmark : c.markDirty g.toNat = c.dirty g.toNat := (c.markDirty_copied he ho).2
      have hshadow : c.sourceIn .shadow = (s.sc.state == .shadow) := by
        have hsource : c.sc.role = .source := s.sending_role hs
        rw [State.sourceIn, hsource]
        rfl
      rw [hanswered hr (by simp [hout]) (by simp [hout]), hmark]
      refine ⟨fun hn hw => ?_, fun hn hd hw hpa => ?_, fun hsh hq hpm => ?_⟩
      · rw [c.dirty_rests _ (hshadow.trans (beq_false_of_ne hn)) hw]
        rfl
      · rw [c.dirty_wakes _ (hshadow.trans (beq_false_of_ne hn)) hd hw hpa]
        rfl
      · rw [c.dirty_shadow _ (hshadow.trans (beq_iff_eq.2 hsh)) hq hpm]
        rfl
    · have hout := (s.markDirty_open he ho).1
      have hmark : c.markDirty g.toNat = c.markStale := (c.markDirty_open he ho).2
      rw [hanswered hr (by simp [hout]) (by simp [hout]), hmark]
      rfl
    · have hout := (s.markDirty_uncopied he ho).1
      have hmark : c.markDirty g.toNat = c := (c.markDirty_uncopied he ho).2
      rw [hanswered hr (by simp [hout]) (by simp [hout]), hmark]
      rfl
    · rw [s.heard.takeNeed_absent hr he]
      rfl
  · let c := s.heard.count .losses
    dsimp only
    rw [exec_loss hp hl hs]
    refine ⟨fun h0 hd hr => ?_, fun h0 hd hr => ?_, fun h => ?_⟩
    · have hmarked := Marked.dirtyRecords c (s.st.mrl.filter fun r => decide ((r.seq - e).toNat < d.toNat)) hr
      refine ⟨_, congrArg _ (s.heard.takeLoss_named h0 hd), hmarked.mrl, hmarked.losses, fun r hm hn ho => ?_, fun g hg => ?_⟩
      · exact hmarked.ended r.granule ⟨r, List.mem_filter.2 ⟨hm, hn⟩, rfl⟩ ho
      · refine hmarked.kept g fun ⟨r, hm, hrg⟩ => ?_
        obtain ⟨hmem, hn⟩ := List.mem_filter.1 hm
        exact hg r hmem hn hrg
    · rw [s.heard.takeLoss_named h0 hd, State.dirtyRecords_released c _ hr]
      rfl
    · rw [s.heard.takeLoss_bad h]
      rfl

end Sys2Proof.Machine

/-! ## The records that the reads answer (11.3) -/

namespace Sys2Proof.Machine

open Sys2Proof

/-! ### Layouts of numbers -/

/-- A layout: for each field its width in bytes and its value, in order. -/
def layout (fs : List (Nat × Nat)) : List Byte := fs.flatMap fun f => toBytes f.1 f.2

theorem layout_nil : layout [] = [] := rfl

theorem layout_cons (w x : Nat) (fs : List (Nat × Nat)) : layout ((w, x) :: fs) = toBytes w x ++ layout fs := List.flatMap_cons

/-- The width and value of the field that begins at an offset of a layout. -/
def fieldFrom : List (Nat × Nat) → Nat → Option (Nat × Nat)
  | [], _ => none
  | f :: fs, off => if off = 0 then some f else if off < f.1 then none else fieldFrom fs (off - f.1)

theorem length_layout (fs : List (Nat × Nat)) : (layout fs).length = (fs.map Prod.fst).sum := by
  simp [layout, List.length_flatMap]

/-- A field of a layout reads as its value, up to its width (R196). -/
theorem field_layout {fs : List (Nat × Nat)} {off w x : Nat} (h : fieldFrom fs off = some (w, x)) :
    field (layout fs) off w = x % 2 ^ (8 * w) := by
  induction fs generalizing off with
  | nil => cases h
  | cons f fs ih =>
    obtain ⟨v, y⟩ := f
    rw [layout_cons]
    unfold fieldFrom at h
    split at h
    · next hoff =>
      cases h
      rw [hoff, field_toBytes_append, pow_mul]
      rfl
    · split at h
      · cases h
      · next hw => rw [field_toBytes_skip _ _ _ (Nat.not_lt.1 hw), ih h]

/-- An entry of a table looked up by a field. -/
theorem lookup_eq {α : Type} {l : List α} {a : α} {n m : Nat} (h : n = m) (hm : l[m]? = some a) : l[n]? = some a := h ▸ hm

/-- The flags of a byte read from a field. -/
theorem flags_eq {l : List Bool} {k n m : Nat} (h : n = m) (hm : (List.range k).map m.testBit = l) :
    (List.range k).map n.testBit = l := h ▸ hm

/-! ### Flags and codes (11.3) -/

theorem testBit_flags4 : ∀ a b c d : Bool,
    (List.range 4).map ((bitVal a 0 + bitVal b 1 + bitVal c 2 + bitVal d 3) % 2 ^ (8 * 1)).testBit = [a, b, c, d] := by
  decide

theorem testBit_flags8 : ∀ a b c d e f g h : Bool,
    (List.range 8).map ((bitVal a 0 + bitVal b 1 + bitVal c 2 + bitVal d 3 + bitVal e 4 + bitVal f 5 + bitVal g 6 + bitVal h 7) %
      2 ^ (8 * 1)).testBit = [a, b, c, d, e, f, g, h] := by
  decide

theorem bitVal_zero_mod : ∀ b : Bool, bitVal b 0 % 2 ^ (8 * 1) = b.toNat := by
  decide

theorem Role.lookup_code (r : Role) : [Role.none, .source, .target][r.code % 2 ^ (8 * 1)]? = some r := by
  cases r <;> rfl

theorem SessionState.lookup_code (x : SessionState) : [SessionState.idle, .listen, .handshake, .sweep, .rinse, .cutover,
    .shadow, .filling, .fault][x.code % 2 ^ (8 * 1)]? = some x := by
  cases x <;> rfl

theorem lookup_startFailCode {a : Option ReplyAnswer} (h : a ≠ some .accept) :
    [none, some ReplyAnswer.refuseSpan, some .refuseState][startFailCode a % 2 ^ (8 * 1)]? = some a := by
  obtain _ | a := a
  · rfl
  · cases a with
    | accept => exact absurd rfl h
    | refuseSpan => rfl
    | refuseState => rfl

theorem lookup_faultCode (r : Option FaultReason) : [none, some FaultReason.handshakeTimeout, some .linkDown, some .silent,
    some .releasedUnsynced, some .answerLost][(r.map FaultReason.code).getD 0 % 2 ^ (8 * 1)]? = some r := by
  obtain _ | r := r
  · rfl
  · cases r <;> rfl

theorem LockMode.lookup_code (m : LockMode) : [LockMode.unlocked, .strap, .session][m.code % 2 ^ (8 * 1)]? = some m := by
  cases m <;> rfl

theorem ResultCode.lookup_code (c : ResultCode) :
    [ResultCode.ok, .state, .unarmed, .locked, .param, .unknown][c.code % 2 ^ (8 * 1)]? = some c := by
  cases c <;> rfl

theorem ResetKind.lookup_code (k : ResetKind) :
    [none, some ResetKind.powerOn, some .line, some .command][k.code % 2 ^ (8 * 1)]? = some (some k) := by
  cases k <;> rfl

theorem TestPoint.lookup_code (p : TestPoint) :
    [TestPoint.passEnd, .deferred, .resume, .command][p.code % 2 ^ (8 * 1)]? = some p := by
  cases p <;> rfl

theorem lookup_entryCode (x : Option GranuleState) : [some GranuleState.uncopied, some .copied, some .dirty, some .excluded,
    none][entryCode x % 2 ^ (8 * 1)]? = some x := by
  obtain _ | x := x
  · rfl
  · cases x <;> rfl

/-! ### The records as layouts -/

/-- The fields of the status record before the counters. -/
def State.statusFields (s : State) : List (Nat × Nat) :=
  [(1, s.sc.role.code), (1, s.sc.state.code), (1, s.sc.session.toNat), (1, s.statusFlags), (1, startFailCode s.sc.startFail),
    (1, (s.sc.faultReason.map FaultReason.code).getD 0), (2, s.sc.handshake.count),
    (1, s.sc.role.code), (3, s.sc.params.span), (1, bitVal s.sc.params.manual 0), (1, bitVal s.sc.params.stall 0),
    (2, s.sc.params.dMax), (2, s.sc.params.hLimit), (2, s.sc.params.qAllow), (2, s.sc.params.ki), (1, s.sc.params.sl),
    (1, s.sc.params.share),
    (2, s.shownSe.passNo), (1, s.shownSe.flags),
    (3, s.gm.census.uncopied), (3, s.gm.census.copied), (3, s.gm.census.dirty), (3, s.gm.census.excluded),
    (1, s.gm.lock.code),
    (1, bitVal s.shownReport.isSome 0 + bitVal s.shownOverflow 1), (2, (s.shownReport.map (·.pass)).getD 0),
    (3, (s.shownReport.map (·.d)).getD 0), (1, s.shownOccupancy),
    (1, s.st.sendCredits), (1, s.st.txq.length), (1, s.st.pendingMarks.length), (1, s.st.mrl.length),
    (1, s.cvu.share), (1, s.sc.params.share), (1, bitVal s.cvu.armed 0 + 2 * s.cvu.attempts),
    (1, s.mgp.lastResult.code), (1, s.mgp.cause.code), (2, s.au.latch.toNat), (2, s.au.mask.toNat)]

/-- The fields of the counters. -/
def Counters.fields (k : Counters) : List (Nat × Nat) :=
  [(3, k.degraded), (3, k.discarded), (3, k.protect), (3, k.protocol), (3, k.poisoned), (3, k.needs), (3, k.losses),
    (3, k.refusedWrites), (3, k.readyLate)]

theorem Counters.bytes_eq (k : Counters) : k.bytes = layout k.fields := by
  simp only [Counters.bytes, Counters.fields, layout_cons, layout_nil, List.append_nil, List.append_assoc]

theorem State.statusRecord_eq (s : State) : s.statusRecord = layout s.statusFields ++ layout s.mgp.counters.fields := by
  unfold State.statusRecord
  simp only [← toBytes_toNat s.sc.session, Counters.bytes_eq, paramBytes, Census.bytes, State.statusFields, layout_cons,
    layout_nil, List.append_assoc, List.nil_append]

/-- The fields of the cursor reply before the open record. -/
def Se.cursorFields (e : Se) : List (Nat × Nat) :=
  [(1, e.plan.length), (1, e.cursor.extent), (1, e.cursor.remaining.length), (2, e.cursor.remainingAt 0),
    (2, e.cursor.remainingAt 1), (2, e.cursor.remainingAt 2), (3, e.cursor.next.getD 0),
    (1, bitVal e.cursor.done 0 + bitVal e.cursor.next.isSome 1 + bitVal e.opened.isSome 2 + bitVal (e.opened.any (·.stale)) 3),
    (1, e.flags), (3, e.scanIdx), (2, e.passNo), (3, e.passTimer), (1, e.openNo.toNat)]

theorem Se.cursorBytes_eq (e : Se) : e.cursorBytes = layout e.cursorFields ++ openBytes e.opened := by
  simp only [Se.cursorBytes, Se.cursorFields, layout_cons, layout_nil, List.append_nil, List.append_assoc, toBytes_toNat]

/-- The fields of the open record. -/
def OpenRecord.fields (r : OpenRecord) : List (Nat × Nat) :=
  [(3, r.granule), (1, r.openNo.toNat), (2, r.nextLine), (2, r.returned), (2, r.poison)]

theorem openBytes_some (r : OpenRecord) : openBytes (some r) = layout r.fields := by
  simp only [openBytes, OpenRecord.fields, layout_cons, layout_nil, List.append_nil, List.append_assoc, toBytes_toNat]

/-- The fields of the pass record. -/
def PassRecord.fields (r : PassRecord) : List (Nat × Nat) :=
  [(1, bitVal r.valid 0 + bitVal r.cHeld 1 + bitVal r.eligible 2 + bitVal r.converging 3), (1, r.point.code), (2, r.passNo),
    (3, r.t), (3, r.nc), (3, r.nd), (3, r.d), (2, r.c), (2, r.r), (3, r.h), (1, r.streak)]

theorem PassRecord.bytes_eq (r : PassRecord) : r.bytes = layout r.fields := by
  simp only [PassRecord.bytes, PassRecord.fields, layout_cons, layout_nil, List.append_nil, List.append_assoc]

/-- The fields of the map reply. -/
def State.mapFields (s : State) (g : Nat) : List (Nat × Nat) :=
  [(1, entryCode (s.entry g)),
    (1, bitVal (s.isOpen g) 0 + bitVal (s.openStale g) 1 + bitVal (s.localCovers g) 2 + bitVal (s.peerCovers g) 3)]

theorem State.mapReply_eq (s : State) (g : Nat) : s.mapReply g = layout (s.mapFields g) := by
  simp only [State.mapReply, State.mapFields, layout_cons, layout_nil, List.append_nil]

/-! ### Their fields -/

variable {off w x : Nat}

theorem State.length_statusFields (s : State) : (layout s.statusFields).length = 60 := by
  simp [length_layout, State.statusFields]

theorem State.field_status (s : State) (h : fieldFrom s.statusFields off = some (w, x) := by simp [fieldFrom, State.statusFields])
    (hw : off + w ≤ 60 := by decide) :
    field s.statusRecord off w = x % 2 ^ (8 * w) := by
  rw [s.statusRecord_eq, field_append_left (by rw [s.length_statusFields]; exact hw), field_layout h]

/-- The counters stand in their order behind the masks. -/
theorem State.field_counter (s : State) {i : Nat} {k : Counter} (h : [Counter.degraded, .discarded, .protect, .protocol,
    .poisoned, .needs, .losses, .refusedWrites, .readyLate][i]? = some k) :
    field s.statusRecord (60 + 3 * i) 3 = s.mgp.counters.get k % 2 ^ 24 := by
  have hfield : fieldFrom s.mgp.counters.fields (3 * i) = some (3, s.mgp.counters.get k) := by
    obtain ⟨hi, hk⟩ := List.getElem?_eq_some_iff.1 h
    simp only [List.length_cons, List.length_nil] at hi
    interval_cases i <;> cases hk <;> rfl
  rw [s.statusRecord_eq, field_append_right (by rw [s.length_statusFields]; omega), s.length_statusFields,
    Nat.add_sub_cancel_left, field_layout hfield]

theorem Se.length_cursorFields (e : Se) : (layout e.cursorFields).length = 23 := length_layout _

theorem Se.field_cursor (e : Se)
    (h : fieldFrom e.cursorFields off = some (w, x) := by simp [fieldFrom, Se.cursorFields, Cursor.remainingAt])
    (hw : off + w ≤ 23 := by decide) :
    field e.cursorBytes off w = x % 2 ^ (8 * w) := by
  rw [e.cursorBytes_eq, field_append_left (by rw [e.length_cursorFields]; exact hw), field_layout h]

theorem Se.field_open {e : Se} {r : OpenRecord} (hr : e.opened = some r) (hoff : 23 ≤ off := by decide)
    (h : fieldFrom r.fields (off - 23) = some (w, x) := by simp [fieldFrom, OpenRecord.fields]) :
    field e.cursorBytes off w = x % 2 ^ (8 * w) := by
  rw [e.cursorBytes_eq, field_append_right (by rw [e.length_cursorFields]; exact hoff), hr, openBytes_some,
    e.length_cursorFields, field_layout h]

theorem PassRecord.field_bytes (r : PassRecord)
    (h : fieldFrom r.fields off = some (w, x) := by simp [fieldFrom, PassRecord.fields]) :
    field r.bytes off w = x % 2 ^ (8 * w) := by
  rw [r.bytes_eq, field_layout h]

theorem State.field_mapReply (s : State) {g : Nat}
    (h : fieldFrom (s.mapFields g) off = some (w, x) := by simp [fieldFrom, State.mapFields]) :
    field (s.mapReply g) off w = x % 2 ^ (8 * w) := by
  rw [s.mapReply_eq, field_layout h]

end Sys2Proof.Machine

namespace Sys2Proof.Machine

open Sys2Proof

/-! ### Flags and lengths of the records -/

theorem Se.testBit_flags (e : Se) : (List.range 4).map (e.flags % 2 ^ (8 * 1)).testBit =
    [e.running, e.waiting, e.paused, e.deferred] := testBit_flags4 _ _ _ _

theorem State.testBit_statusFlags (s : State) : (List.range 8).map (s.statusFlags % 2 ^ (8 * 1)).testBit =
    [s.sc.linkUp, s.sc.releasePending, s.sc.takeoverPending, s.sc.startFail.isSome, s.sc.synced, s.sc.unsynced,
      s.mgp.armLatch, s.alertLine] := testBit_flags8 _ _ _ _ _ _ _ _

theorem testBit_flags2 : ∀ a b : Bool, ((bitVal a 0 + bitVal b 1) % 2 ^ (8 * 1)).testBit 0 = a ∧
    ((bitVal a 0 + bitVal b 1) % 2 ^ (8 * 1)).testBit 1 = b := by
  decide

/-- The armed flag is the lowest bit, whatever the attempt count behind it. -/
theorem testBit_armed (a : Bool) (n : Nat) : ((bitVal a 0 + 2 * n) % 2 ^ (8 * 1)).testBit 0 = a := by
  cases a with
  | false => simp [bitVal, Nat.testBit_zero]
  | true => simp [bitVal, Nat.testBit_zero]

theorem armed_attempts {a : Bool} {n : Nat} (h : n ≤ 3) : (bitVal a 0 + 2 * n) % 2 ^ (8 * 1) / 2 = n := by
  have ha : bitVal a 0 ≤ 1 := by
    cases a with
    | false => exact Nat.zero_le 1
    | true => exact Nat.le_refl 1
  omega

theorem State.length_statusRecord (s : State) : s.statusRecord.length = 87 := by
  rw [s.statusRecord_eq, List.length_append, s.length_statusFields, length_layout]
  rfl

theorem PassRecord.length_bytes (r : PassRecord) : r.bytes.length = 24 := by
  rw [r.bytes_eq, length_layout]
  rfl

theorem State.length_mapReply (s : State) (g : Nat) : (s.mapReply g).length = 2 := by
  rw [s.mapReply_eq, length_layout]
  rfl

/-- After a reset every field of the cursor reply behind the plan length is zero (R82). -/
theorem Se.cursorBytes_initial (plan : List Extent) :
    ({ Se.initial with plan := plan } : Se).cursorBytes.tail = List.replicate 32 0 := by
  simp [Se.cursorBytes, Se.initial, Cursor.cleared, Cursor.remainingAt, Se.flags, bitVal, openBytes, toBytes, List.replicate]

/-- With no granule open the open record's fields are zero (R82). -/
theorem Se.cursorBytes_drop {e : Se} (h : e.opened = none) : e.cursorBytes.drop 23 = List.replicate 10 0 := by
  rw [e.cursorBytes_eq, h, List.drop_left' e.length_cursorFields]
  rfl

/-- The armed flag and the attempt count share a byte (R182). -/
theorem State.field_armed (s : State) : field s.statusRecord 53 1 = (bitVal s.cvu.armed 0 + 2 * s.cvu.attempts) % 2 ^ (8 * 1) :=
  s.field_status

/-- The pass report, OVERFLOW and the occupancy as STATUS shows them (R182). -/
theorem State.field_shownReport (s : State) :
    field s.statusRecord 40 1 = (bitVal s.shownReport.isSome 0 + bitVal s.shownOverflow 1) % 2 ^ 8 ∧
    field s.statusRecord 41 2 = ((s.shownReport.map (·.pass)).getD 0) % 2 ^ 16 ∧
    field s.statusRecord 43 3 = ((s.shownReport.map (·.d)).getD 0) % 2 ^ 24 ∧
    field s.statusRecord 46 1 = s.shownOccupancy % 2 ^ 8 :=
  ⟨s.field_status, s.field_status, s.field_status, s.field_status⟩

end Sys2Proof.Machine

namespace Sys2Proof.Machine

open Sys2Proof

/-- Settles O34: the commands by `command_reads`, the fields by the layouts of the four records. -/
theorem readsReturnRecords : Obligations.ReadsReturnRecords := by
  unfold Obligations.ReadsReturnRecords
  intro s hp
  have hreadPass : exec (.readPass []) s = .next (s.replying false false .ok s.shownRecord.bytes) :=
    command_reads (ps := []) (n := 0) (f := fun u => u.shownRecord.bytes) hp rfl
  refine ⟨command_reads (ps := []) (n := 0) (f := State.statusRecord) hp rfl, s.length_statusRecord,
    command_reads (ps := []) (n := 0) (f := State.cursorReply) hp rfl, s.shownSe.length_cursorBytes, fun h => ?_,
    fun h => ?_, s.cvu.record.length_bytes, fun ps hn hlt => ⟨?_, s.length_mapReply _⟩, fun ps hn hge => ?_,
    ?_, ?_, ?_, fun g => ⟨?_, ?_⟩⟩
  · rw [hreadPass, s.shownRecord_of_ne h]
  · rw [hreadPass, s.shownRecord_target h]
    rfl
  · rw [← field_all hn] at hlt ⊢
    exact command_accepts (u := s.setOut []) hp (by simp) hn (if_pos hlt)
  · rw [← field_all hn] at hge
    exact command_refuses hp (by simp) hn (if_neg (Nat.not_lt.2 hge))
  · dsimp only
    refine ⟨lookup_eq s.field_status s.sc.role.lookup_code, lookup_eq s.field_status s.sc.state.lookup_code, ?_,
      flags_eq s.field_status s.testBit_statusFlags, fun h => lookup_eq s.field_status (lookup_startFailCode h),
      lookup_eq s.field_status (lookup_faultCode _), s.field_status, lookup_eq s.field_status s.sc.role.lookup_code,
      s.field_status, s.field_status.trans (bitVal_zero_mod _), s.field_status.trans (bitVal_zero_mod _), s.field_status,
      s.field_status, s.field_status, s.field_status, s.field_status, s.field_status, fun h => ?_, s.field_status,
      s.field_status, s.field_status, s.field_status, lookup_eq s.field_status s.gm.lock.lookup_code, fun h => ?_,
      fun h => ?_, s.field_status, s.field_status, s.field_status, s.field_status, s.field_status, s.field_status, ?_,
      fun h => ?_, lookup_eq s.field_status s.mgp.lastResult.lookup_code, lookup_eq s.field_status s.mgp.cause.lookup_code,
      ?_, ?_, fun i k h => s.field_counter h⟩
    · exact s.field_status.trans (Nat.mod_eq_of_lt s.sc.session.isLt)
    · have hpass : field s.statusRecord 24 2 = s.shownSe.passNo % 2 ^ 16 := s.field_status
      have hflags := flags_eq (s.field_status (off := 26)) s.shownSe.testBit_flags
      rw [s.shownSe_of_ne h] at hpass hflags
      exact ⟨hpass, hflags⟩
    · have hreport : s.shownReport = none := if_pos h
      have hover : s.shownOverflow = false := by simp [State.shownOverflow, h]
      have hocc : s.shownOccupancy = 0 := if_pos h
      obtain ⟨h40, h41, h43, h46⟩ := s.field_shownReport
      rw [hreport] at h40 h41 h43
      rw [hover] at h40
      rw [hocc] at h46
      exact ⟨h40, h41, h43, h46⟩
    · have hreport : s.shownReport = s.sr.lastReport := if_neg h
      have hover : s.shownOverflow = s.sr.overflow := by simp [State.shownOverflow, h]
      have hocc : s.shownOccupancy = s.sr.buffer.length := if_neg h
      obtain ⟨h40, h41, h43, h46⟩ := s.field_shownReport
      rw [hreport] at h40 h41 h43
      rw [hover] at h40
      rw [hocc] at h46
      rw [h40]
      obtain ⟨hvalid, hoverflow⟩ := testBit_flags2 s.sr.lastReport.isSome s.sr.overflow
      exact ⟨hvalid, hoverflow, h41, h43, h46⟩
    · exact (congrArg (Nat.testBit · 0) s.field_armed).trans (testBit_armed _ _)
    · exact (congrArg (· / 2) s.field_armed).trans (armed_attempts h)
    · exact s.field_status.trans (Nat.mod_eq_of_lt (Nat.lt_trans s.au.latch.isLt (by decide)))
    · exact s.field_status.trans (Nat.mod_eq_of_lt (Nat.lt_trans s.au.mask.isLt (by decide)))
  · dsimp only
    refine ⟨?_, fun h => ?_, fun h => ?_⟩
    · have hplan : field s.cursorReply 0 1 = s.shownSe.plan.length % 2 ^ 8 := s.shownSe.field_cursor
      rwa [s.shownSe_plan] at hplan
    · rw [State.cursorReply, s.shownSe_target h]
      exact Se.cursorBytes_initial s.se.plan
    · rw [State.cursorReply, s.shownSe_of_ne h]
      refine ⟨s.se.field_cursor, s.se.field_cursor, fun i hi => ?_, s.se.field_cursor,
        flags_eq s.se.field_cursor (testBit_flags4 _ _ _ _), flags_eq s.se.field_cursor s.se.testBit_flags, s.se.field_cursor,
        s.se.field_cursor, s.se.field_cursor, ?_, Se.cursorBytes_drop, fun r hr => ?_⟩
      · match i, hi with
        | 0, _ => exact s.se.field_cursor
        | 1, _ => exact s.se.field_cursor
        | 2, _ => exact s.se.field_cursor
      · exact s.se.field_cursor.trans (Nat.mod_eq_of_lt s.se.openNo.isLt)
      · exact ⟨Se.field_open hr, (Se.field_open hr).trans (Nat.mod_eq_of_lt r.openNo.isLt), Se.field_open hr, Se.field_open hr,
          Se.field_open hr⟩
  · dsimp only
    exact ⟨flags_eq s.cvu.record.field_bytes (testBit_flags4 _ _ _ _),
      lookup_eq s.cvu.record.field_bytes s.cvu.record.point.lookup_code,
      s.cvu.record.field_bytes, s.cvu.record.field_bytes, s.cvu.record.field_bytes, s.cvu.record.field_bytes,
      s.cvu.record.field_bytes, s.cvu.record.field_bytes, s.cvu.record.field_bytes, s.cvu.record.field_bytes,
      s.cvu.record.field_bytes⟩
  · exact lookup_eq s.field_mapReply (lookup_entryCode _)
  · have hflags := flags_eq (l := [s.isOpen g, s.openStale g, s.localCovers g, s.peerCovers g])
      (s.field_mapReply (g := g) (off := 1)) (testBit_flags4 _ _ _ _)
    exact hflags

end Sys2Proof.Machine

/-! ## The ports, the queues and the session under every operation

Three kinds of claims hold in every step: of the ports with their credits and tags, of the queues with their bounds, and of the session
state with the hold and the timers that go with it. `Orderly` says once what an operation inside an event leaves of them; each operation
of the model has one lemma. -/

namespace Sys2Proof.Machine

open Sys2Proof

/-! ### The fields these claims rest on -/

/-- Whether an output is a request to the memory side (R29). -/
def Output.isRequest : Output → Bool
  | .memRequest .. => true
  | _ => false

/-- What the claims about the ports read: of the outputs the requests alone, of the request table each tag with whether it goes with
its class. -/
structure PortView where
  phase : Phase
  queue : List ClientRequest
  credits : Nat
  free : Nat
  k : Nat
  records : List (Nat × Bool)
  fences : List (Option Fence)
  role : Role
  params : Params
  requests : List Output

def State.portView (s : State) : PortView where
  phase := s.phase
  queue := s.cp.queue
  credits := s.cp.credits
  free := s.mp.credits
  k := s.mp.k
  records := s.mp.table.map fun r => (r.tag, r.tagged)
  fences := s.gm.localFences
  role := s.sc.role
  params := s.sc.params
  requests := s.out.filter Output.isRequest

/-- What the claims about the session state, hold and the timers read. -/
structure SessionView where
  role : Role
  state : SessionState
  releasePending : Bool
  hold : Bool
  holdTimer : Bool
  handshake : Bool
  silent : Bool
  keepalive : Bool
  awaitingReady : Bool
  synced : Bool
  unsynced : Bool

def State.sessionView (s : State) : SessionView where
  role := s.sc.role
  state := s.sc.state
  releasePending := s.sc.releasePending
  hold := s.cp.hold
  holdTimer := s.sc.holdTimer.running
  handshake := s.sc.handshake.running
  silent := s.sr.silent.running
  keepalive := s.st.keepalive.running
  awaitingReady := s.sc.awaitingReady
  synced := s.sc.synced
  unsynced := s.sc.unsynced

/-- What the bounds of the stream's queues read. -/
def State.flowView (s : State) :
    Nat × List PendingMark × List MirrorRecord × BitVec 16 × Nat × Nat × Nat × Nat :=
  (s.st.txq.length, s.st.pendingMarks, s.st.mrl, s.st.mirrorSeq, s.st.returnList.length, s.st.sendCredits, s.sr.buffer.length,
    s.sr.freed)

/-- `ListsInBounds` without the ingress queue. -/
def FlowInBounds (s : State) : Prop :=
  s.st.txq.length ≤ 64 ∧ s.st.pendingMarks.length ≤ 8 ∧ (s.st.pendingMarks ≠ [] → s.st.txq.length = 64) ∧
  s.st.mrl.length ≤ 128 ∧ s.st.returnList.length ≤ 16 ∧ s.st.sendCredits ≤ 32 ∧ s.sr.buffer.length ≤ 32 ∧ s.sr.freed ≤ 32

theorem listsInBounds_iff {s : State} : ListsInBounds s ↔ s.cp.queue.length ≤ 32 ∧ FlowInBounds s := Iff.rfl

/-- The range of a share (R156). -/
def ShareInRange (n : Nat) : Prop := 1 ≤ n ∧ n ≤ 15

/-- What an operation keeps of the session; the claim about the clocks may assume `C`. A part comes to judge
writes by no operation but LISTEN (R28). -/
structure SessionKept (C : Prop) (s t : State) : Prop where
  clocks : C → ClocksFollowState s → ClocksFollowState t
  fits : StateFitsRole s → StateFitsRole t
  synced : SyncedAlone s → SyncedAlone t
  fencing : t.fencing = true → s.fencing = true

/-- What an operation inside an event keeps: the ports as they are, and the bounds and the session where they were met. -/
structure Orderly (C : Prop) (s t : State) : Prop extends SessionKept C s t where
  ports : t.portView = s.portView
  share : ShareInRange s.sc.params.share → ShareInRange s.cvu.share → ShareInRange t.cvu.share
  cvu : s.sc.role = .target → t.cvu = s.cvu
  flow : FlowInBounds s → FlowInBounds t
  mrl : MrlConsecutive s → MrlConsecutive t

section Relation

variable {C : Prop} {s t u : State}

theorem SessionKept.trans (h : SessionKept C s t) (k : SessionKept C t u) : SessionKept C s u where
  clocks hc hs := k.clocks hc (h.clocks hc hs)
  fits hs := k.fits (h.fits hs)
  synced hs := k.synced (h.synced hs)
  fencing hu := h.fencing (k.fencing hu)

theorem Orderly.role (h : Orderly C s t) : t.sc.role = s.sc.role := congrArg PortView.role h.ports

theorem Orderly.params (h : Orderly C s t) : t.sc.params = s.sc.params := congrArg PortView.params h.ports

theorem Orderly.trans (h : Orderly C s t) (k : Orderly C t u) : Orderly C s u where
  toSessionKept := h.toSessionKept.trans k.toSessionKept
  ports := k.ports.trans h.ports
  share hp hs := k.share (h.params ▸ hp) (h.share hp hs)
  cvu hr := (k.cvu (h.role.trans hr)).trans (h.cvu hr)
  flow hs := k.flow (h.flow hs)
  mrl hs := k.mrl (h.mrl hs)

/-- The last of two operations first. -/
theorem Orderly.after (k : Orderly C t u) (h : Orderly C s t) : Orderly C s u := h.trans k

theorem Orderly.ite {c : Prop} [Decidable c] (h : Orderly C s t) (k : Orderly C s u) : Orderly C s (if c then t else u) := by
  split
  · exact h
  · exact k

/-- The states and the timers of a session, by role and state. -/
theorem clocksFollowState_iff : ClocksFollowState s ↔
    (s.cp.hold = (decide (s.sc.role = .source) && decide (s.sc.state = .cutover) && !s.sc.releasePending)) ∧
    (s.sc.holdTimer.running = (decide (s.sc.role = .source) && decide (s.sc.state = .cutover) && !s.sc.releasePending)) ∧
    (s.sc.handshake.running = (decide (s.sc.role = .source) && decide (s.sc.state = .handshake))) ∧
    (s.sr.silent.running = (s.sending || s.receiving)) ∧
    (s.st.keepalive.running = (decide (s.sc.role = .source) && decide (s.sc.state = .handshake) || s.sending || s.receiving)) ∧
    (s.sc.awaitingReady = true → s.sc.role = .source ∧ s.sc.state = .cutover ∧ s.sc.releasePending = false) ∧
    (s.sc.releasePending = true → s.sending = true) := by
  simp [ClocksFollowState, State.holding, State.transmitting, State.sourceIn, beq_eq_decide, and_assoc]

theorem State.sending_eq : s.sending = (decide (s.sc.role = .source) &&
    decide (s.sc.state = .sweep ∨ s.sc.state = .rinse ∨ s.sc.state = .cutover ∨ s.sc.state = .shadow)) := by
  simp [State.sending, beq_eq_decide, Bool.or_assoc]

theorem State.receiving_eq : s.receiving = (decide (s.sc.role = .target) &&
    decide (s.sc.state = .filling ∨ s.sc.state = .shadow)) := by
  by_cases h : s.sc.role = .target <;> simp [State.receiving, State.targetIn, beq_eq_decide, h]

/-- The same where the branches need their condition. -/
theorem Orderly.ite_of {c : Prop} [Decidable c] (h : c → Orderly C s t) (k : ¬ c → Orderly C s u) :
    Orderly C s (if c then t else u) := by
  split
  · exact h ‹_›
  · exact k ‹_›

theorem SessionKept.of_view (h : t.sessionView = s.sessionView) : SessionKept C s t := by
  simp only [State.sessionView, SessionView.mk.injEq] at h
  obtain ⟨h1, h2, h3, h4, h5, h6, h7, h8, h9, h10, h11⟩ := h
  refine ⟨?_, ?_, ?_, ?_⟩
  · intro _
    simp only [ClocksFollowState, State.holding, State.sending, State.receiving, State.transmitting, State.sourceIn,
      State.targetIn, h1, h2, h3, h4, h5, h6, h7, h8, h9, imp_self]
  · simp only [StateFitsRole, h1, h2, imp_self]
  · simp only [SyncedAlone, h2, h10, h11, imp_self]
  · simp only [State.fencing, State.receiving, State.targetIn, h1, h2, imp_self]

theorem flowInBounds_congr (h : t.flowView = s.flowView) : FlowInBounds s → FlowInBounds t := by
  simp only [State.flowView, Prod.mk.injEq] at h
  obtain ⟨h1, h2, h3, -, h5, h6, h7, h8⟩ := h
  simp only [FlowInBounds, h1, h2, h3, h5, h6, h7, h8, imp_self]

theorem mrlConsecutive_congr (hm : t.st.mrl = s.st.mrl) (hq : t.st.mirrorSeq = s.st.mirrorSeq) :
    MrlConsecutive s → MrlConsecutive t := by
  simp only [MrlConsecutive, hm, hq, imp_self]

/-- An operation on the session that leaves the ports, CVU and the queues. -/
theorem Orderly.of_session (hp : t.portView = s.portView) (hc : t.cvu = s.cvu) (hf : t.flowView = s.flowView)
    (hs : SessionKept C s t) : Orderly C s t where
  toSessionKept := hs
  ports := hp
  share _ := hc ▸ id
  cvu _ := hc
  flow := flowInBounds_congr hf
  mrl := by
    simp only [State.flowView, Prod.mk.injEq] at hf
    exact mrlConsecutive_congr hf.2.2.1 hf.2.2.2.1

theorem Orderly.of_same (hp : t.portView = s.portView) (hc : t.cvu = s.cvu) (hf : t.flowView = s.flowView)
    (hs : t.sessionView = s.sessionView) : Orderly C s t := .of_session hp hc hf (.of_view hs)

theorem Orderly.refl : Orderly C s s := .of_same rfl rfl rfl rfl

end Relation

section Updates

variable {C : Prop} (s : State)

theorem Orderly.setSe (x : Se) : Orderly C s (s.setSe x) := .of_same rfl rfl rfl rfl
theorem Orderly.setMgp (x : Mgp) : Orderly C s (s.setMgp x) := .of_same rfl rfl rfl rfl
theorem Orderly.setAu (x : Au) : Orderly C s (s.setAu x) := .of_same rfl rfl rfl rfl

/-- GM with the local fences as they are. -/
theorem Orderly.setGm (x : Gm) (h : x.localFences = s.gm.localFences) : Orderly C s (s.setGm x) :=
  .of_same (by simp [State.portView, h]) rfl rfl rfl

/-- SR with its buffer and its freed count in bounds. -/
theorem Orderly.setSr (x : Sr) (hs : x.silent.running = s.sr.silent.running)
    (hb : FlowInBounds s → x.buffer.length ≤ 32 ∧ x.freed ≤ 32) : Orderly C s (s.setSr x) where
  toSessionKept := .of_view (by simp [State.sessionView, hs])
  ports := rfl
  share _ := id
  cvu _ := rfl
  flow h := by
    obtain ⟨hbuf, hfreed⟩ := hb h
    obtain ⟨h1, h2, h3, h4, h5, h6, -, -⟩ := h
    exact ⟨h1, h2, h3, h4, h5, h6, hbuf, hfreed⟩
  mrl := id

/-- SR with its buffer and its freed count as they are. -/
theorem Orderly.setSr_same (x : Sr) (hs : x.silent.running = s.sr.silent.running) (hb : x.buffer = s.sr.buffer)
    (hf : x.freed = s.sr.freed) : Orderly C s (s.setSr x) := by
  refine .setSr s x hs fun ⟨_, _, _, _, _, _, h7, h8⟩ => ?_
  rw [hb, hf]
  exact ⟨h7, h8⟩

/-- ST with its queues in bounds. -/
theorem Orderly.setSt (x : St) (hk : x.keepalive.running = s.st.keepalive.running)
    (hf : FlowInBounds s → FlowInBounds (s.setSt x)) (hm : MrlConsecutive s → MrlConsecutive (s.setSt x)) :
    Orderly C s (s.setSt x) where
  toSessionKept := .of_view (by simp [State.sessionView, hk])
  ports := rfl
  share _ := id
  cvu _ := rfl
  flow := hf
  mrl := hm

/-- SC with the role and the parameters as they are. -/
theorem Orderly.setSc (x : Sc) (hr : x.role = s.sc.role) (hp : x.params = s.sc.params) (h : SessionKept C s (s.setSc x)) :
    Orderly C s (s.setSc x) :=
  .of_session (by simp [State.portView, hr, hp]) rfl rfl h

/-- CVU of a part that is no TARGET. -/
theorem Orderly.setCvu (x : Cvu) (hr : s.sc.role ≠ .target)
    (h : ShareInRange s.sc.params.share → ShareInRange s.cvu.share → ShareInRange x.share) : Orderly C s (s.setCvu x) where
  toSessionKept := .of_view rfl
  ports := rfl
  share := h
  cvu ht := absurd ht hr
  flow := id
  mrl := id

/-! ### Flags, outputs and the request table -/

theorem Orderly.raise (a : Alert) : Orderly C s (s.raise a) := .setAu s _
theorem Orderly.raiseIf (c : Bool) (a : Alert) : Orderly C s (s.raiseIf c a) := by
  rw [State.raiseIf_eq]
  exact .setAu s _
theorem Orderly.count (c : Counter) : Orderly C s (s.count c) := .setMgp s _
theorem Orderly.capture (k : EventKind) (g : Option Nat) (d : Detail) : Orderly C s (s.capture k g d) := .setMgp s _
theorem Orderly.finish (g e : Bool) (c : ResultCode) (data : List Byte) : Orderly C s (s.finish g e c data) := .setMgp s _

/-- An output that is no request to the memory side. -/
theorem Orderly.emit (o : Output) (h : o.isRequest = false) : Orderly C s (s.emit o) :=
  .of_same (by simp [State.portView, State.emit_eq, h]) rfl rfl rfl

/-- Dropping the data of own requests leaves every tag with its class (R34). -/
theorem droppedTable_records :
    s.droppedTable.map (fun r => (r.tag, r.tagged)) = s.mp.table.map fun r => (r.tag, r.tagged) := by
  simp only [State.droppedTable, List.map_map]
  refine List.map_congr_left fun r _ => ?_
  obtain ⟨tag, owner, kind, addr⟩ := r
  cases owner <;> rfl

end Updates

/-! ### The TXQ and the marks -/

section Stream

variable {C : Prop} (s : State)

/-- An append where the TXQ has room: then no mark is pending (R84, R89). -/
theorem Orderly.appendTx (e : TxEntry) (h : s.st.txq.length < 64) : Orderly C s (s.appendTx e) := by
  refine .after (.raiseIf _ _ _) (.setSt s _ rfl (fun ⟨_, h2, h3, hrest⟩ => ⟨?_, h2, fun hp => ?_, hrest⟩) id)
  · simpa using h
  · exact absurd (h3 hp) (by omega)

end Stream

end Sys2Proof.Machine

namespace Sys2Proof.Machine

open Sys2Proof

variable {C : Prop} (s : State)

/-! ### The ends of a session -/

/-- A part in a state of no session: hold released, every timer stopped, nothing pending. -/
theorem SessionKept.of_ended {t : State} (hx : t.sc.state = .idle ∨ t.sc.state = .fault)
    (ht : ClocksFollowState s → t.cp.hold = false ∧ t.sc.holdTimer.running = false ∧ t.sc.handshake.running = false ∧
      t.sr.silent.running = false ∧ t.st.keepalive.running = false ∧ t.sc.awaitingReady = false ∧
      t.sc.releasePending = false)
    (hf : t.sc.state = .fault → t.sc.role ≠ .none) (hs : SyncedAlone s → SyncedAlone t)
    (hj : t.sc.state = .fault → t.sc.role = .target → s.fencing = true) : SessionKept C s t := by
  refine ⟨fun _ h => ?_, fun _ => ?_, hs, fun h => ?_⟩
  · obtain ⟨h1, h2, h3, h4, h5, h6, h7⟩ := ht h
    rcases hx with hx | hx <;>
      simp [clocksFollowState_iff, State.sending_eq, State.receiving_eq, hx, h1, h2, h3, h4, h5, h6, h7]
  · rcases hx with hx | hx
    · simp [StateFitsRole, hx]
    · cases hr : t.sc.role with
      | none => exact absurd hr (hf hx)
      | source => simp [StateFitsRole, hx, hr]
      | target => simp [StateFitsRole, hx, hr]
  · rcases hx with hx | hx
    · simp [State.fencing, State.receiving, State.targetIn, hx] at h
    · refine hj hx ?_
      simp [State.fencing, State.receiving, State.targetIn, hx] at h
      exact h

/-- An operation that empties queues of the stream and leaves the others keeps their bounds. -/
theorem flowInBounds_of_le {t : State} (h1 : t.st.txq = [] ∧ t.st.pendingMarks = [] ∧ t.st.mrl = [] ∨
      t.st.txq = s.st.txq ∧ t.st.pendingMarks = s.st.pendingMarks ∧ t.st.mrl = s.st.mrl)
    (h2 : t.st.returnList.length ≤ s.st.returnList.length) (h3 : t.st.sendCredits = s.st.sendCredits)
    (h4 : t.sr.buffer.length ≤ s.sr.buffer.length) (h5 : t.sr.freed ≤ s.sr.freed) : FlowInBounds s → FlowInBounds t := by
  rintro ⟨k1, k2, k3, k4, k5, k6, k7, k8⟩
  have hrest : t.st.returnList.length ≤ 16 ∧ t.st.sendCredits ≤ 32 ∧ t.sr.buffer.length ≤ 32 ∧ t.sr.freed ≤ 32 :=
    ⟨by omega, by omega, by omega, by omega⟩
  obtain ⟨e1, e2, e3⟩ | ⟨e1, e2, e3⟩ := h1
  · exact ⟨by simp [e1], by simp [e2], by simp [e2], by simp [e3], hrest⟩
  · rw [FlowInBounds, e1, e2, e3]
    exact ⟨k1, k2, k3, k4, hrest⟩

/-- A SOURCE leaves its session for IDLE, or from a session for FAULT (R135, R146). -/
theorem Orderly.leftSource (x : SessionState) (newest : Option (BitVec 16))
    (hx : x = .idle ∨ x = .fault ∧ s.sc.role = .source ∧ s.sc.state ≠ .idle) : Orderly C s (s.leftSource x newest) where
  toSessionKept := by
    refine .of_ended s (hx.imp id And.left) (fun _ => ⟨rfl, rfl, rfl, rfl, rfl, rfl, rfl⟩) (fun h => ?_) (fun h ht => ?_)
      (fun h ht => ?_)
    · obtain rfl | ⟨-, hr, -⟩ := hx
      · cases h
      · have hr : (s.leftSource x newest).sc.role = .source := hr
        simp [hr]
    · obtain ⟨hi, hu⟩ := h ht
      obtain rfl | ⟨-, -, hn⟩ := hx
      · exact ⟨rfl, hu⟩
      · exact absurd hi hn
    · obtain rfl | ⟨-, hr, -⟩ := hx
      · cases h
      · have ht : s.sc.role = .target := ht
        simp [hr] at ht
  ports := by
    have h := droppedTable_records s
    unfold State.portView
    simp only [PortView.mk.injEq]
    exact ⟨rfl, rfl, rfl, rfl, rfl, h, rfl, rfl, rfl, rfl⟩
  share := fun _ => id
  cvu _ := rfl
  flow := flowInBounds_of_le s (.inl ⟨rfl, rfl, rfl⟩) (Nat.le_refl _) rfl (Nat.le_refl _) (Nat.le_refl _)
  mrl _ i h := absurd h (Nat.not_lt_zero i)

theorem Orderly.endSource_idle : Orderly C s (s.endSource .idle) := by
  rw [State.endSource_eq]
  exact .leftSource s _ _ (.inl rfl)
theorem Orderly.detachComplete : Orderly C s s.detachComplete := .endSource_idle s
theorem Orderly.flushSource_idle : Orderly C s (s.flushSource .idle) := by
  rw [State.flushSource_eq]
  exact .leftSource s _ _ (.inl rfl)
theorem Orderly.flushSource_fault (hr : s.sc.role = .source) (hi : s.sc.state ≠ .idle) : Orderly C s (s.flushSource .fault) := by
  rw [State.flushSource_eq]
  exact .leftSource s _ _ (.inr ⟨rfl, hr, hi⟩)
theorem Orderly.setFault (r : FaultReason) : Orderly C s (s.setFault r) := .of_same rfl rfl rfl rfl

/-- A sending SOURCE is in a session. -/
theorem State.sending_session (h : s.sending = true) : s.sc.role = .source ∧ s.sc.state ≠ .idle := by
  simp only [State.sending, Bool.and_eq_true, beq_iff_eq] at h
  refine ⟨h.1, fun hi => ?_⟩
  simp [hi] at h

/-- A SOURCE that sends from the TXQ is in a session. -/
theorem State.transmitting_session (h : s.transmitting = true) : s.sc.role = .source ∧ s.sc.state ≠ .idle := by
  simp only [State.transmitting, Bool.or_eq_true] at h
  obtain h | h := h
  · simp only [State.sourceIn, Bool.and_eq_true, beq_iff_eq] at h
    exact ⟨h.1, by simp [h.2]⟩
  · exact s.sending_session h

theorem Orderly.sourceLinkLoss (r : FaultReason) (h : s.sc.role = .source ∧ s.sc.state ≠ .idle) :
    Orderly C s (s.sourceLinkLoss r) :=
  .after (.raise _ _) <| .after (.raise _ _) <| .after (.setFault _ _) (.flushSource_fault s h.1 h.2)

theorem Orderly.handshakeLoss (h : s.sourceIn .handshake = true) : Orderly C s s.handshakeLoss := by
  have hs := s.transmitting_session (by simp [State.transmitting, h])
  exact .after (.setSc _ _ rfl rfl (.of_view rfl)) <| .after (.raise _ _) <| .after (.setFault _ _)
    (.flushSource_fault s hs.1 hs.2)

/-- A TARGET has no hold (R26). -/
theorem ClocksFollowState.no_hold (h : ClocksFollowState s) (hr : s.sc.role = .target) : s.cp.hold = false ∧
    s.sc.holdTimer.running = false ∧ s.sc.handshake.running = false ∧ s.sc.awaitingReady = false ∧
    s.sc.releasePending = false := by
  obtain ⟨h1, h2, h3, -, -, h6, h7⟩ := h
  simp only [State.holding, State.sending, State.sourceIn, hr] at h1 h2 h3 h6 h7
  refine ⟨h1, h2, h3, eq_false_of_ne_true fun h => ?_, eq_false_of_ne_true fun h => ?_⟩
  · exact nomatch h6 h
  · exact nomatch h7 h

/-- The ports and the queues of a TARGET that has entered IDLE. -/
theorem Orderly.leftTarget (hr : s.sc.role = .target) : Orderly C s s.leftTarget where
  toSessionKept := by
    refine .of_ended s (.inl rfl) (fun h => ?_) nofun (fun h hs => ⟨rfl, (h hs).2⟩) nofun
    obtain ⟨h1, -⟩ := h.no_hold s hr
    exact ⟨h1, rfl, rfl, rfl, rfl, rfl, rfl⟩
  ports := by
    have h := droppedTable_records s
    unfold State.portView
    simp only [PortView.mk.injEq]
    exact ⟨rfl, rfl, rfl, rfl, rfl, h, rfl, rfl, rfl, rfl⟩
  share := fun _ => id
  cvu _ := rfl
  flow := flowInBounds_of_le s (.inr ⟨rfl, rfl, rfl⟩) (Nat.zero_le _) rfl (Nat.zero_le _) (Nat.zero_le _)
  mrl := id

theorem Orderly.endTarget (hr : s.sc.role = .target) : Orderly C s s.endTarget := by
  rw [State.endTarget_eq]
  exact .leftTarget s hr

/-- SYNCED as the completion of a takeover and MARK(RELEASE) in SHADOW leave it, on a TARGET that enters IDLE (R141, R144, R147). -/
theorem Orderly.endTarget_synced (hr : s.sc.role = .target) :
    Orderly C s (s.setSc { s.sc with synced := s.sc.synced || !s.sc.unsynced }).endTarget := by
  let u := s.setSc { s.sc with synced := s.sc.synced || !s.sc.unsynced }
  have h : Orderly C u u.endTarget := .endTarget u hr
  refine { h with
    synced := fun hs => ?_
    clocks := fun hs => h.clocks hs
    fits := fun hs => h.fits hs
    fencing := fun hu => h.fencing hu
    mrl := fun hs => h.mrl hs }
  rw [u.endTarget_eq]
  intro hsync
  have hsync : (s.sc.synced || !s.sc.unsynced) = true := hsync
  refine ⟨rfl, show s.sc.unsynced = false from ?_⟩
  cases hu : s.sc.unsynced with
  | false => rfl
  | true =>
    have hsd : s.sc.synced = true := by simpa [hu] using hsync
    exact hu ▸ (hs hsd).2

theorem Orderly.takeoverComplete (hr : s.sc.role = .target) : Orderly C s s.takeoverComplete := .endTarget_synced s hr

/-- The part that takes the copy stream is a TARGET in a session. -/
theorem State.receiving_session (h : s.receiving = true) :
    s.sc.role = .target ∧ (s.sc.state = .filling ∨ s.sc.state = .shadow) := by
  simp only [State.receiving, State.targetIn, Bool.or_eq_true, Bool.and_eq_true, beq_iff_eq] at h
  obtain ⟨hr, hs⟩ | ⟨hr, hs⟩ := h
  · exact ⟨hr, .inl hs⟩
  · exact ⟨hr, .inr hs⟩

/-- A TARGET in FILLING or SHADOW enters FAULT (R123, R136). -/
theorem Orderly.targetFault (r : FaultReason) (h : s.receiving = true) : Orderly C s (s.targetFault r) := by
  obtain ⟨hr, hs⟩ := s.receiving_session h
  have hbuf : s.sr.dropAnswers.buffer.length ≤ s.sr.buffer.length ∧ s.sr.dropAnswers.freed = s.sr.freed := by
    unfold Sr.dropAnswers
    split
    · exact ⟨Nat.le_refl _, rfl⟩
    · split
      · exact ⟨Nat.le_refl _, rfl⟩
      · exact ⟨by simp, rfl⟩
  have hne : s.sc.state ≠ .idle := by rcases hs with hs | hs <;> simp [hs]
  exact {
    toSessionKept := by
      refine .of_ended s (.inr rfl) (fun hc => ?_) (fun _ => ?_) (fun hy hsy => absurd (hy hsy).1 hne) fun _ _ => ?_
      · obtain ⟨h1, h2, h3, h4, h5⟩ := hc.no_hold s hr
        exact ⟨h1, h2, h3, rfl, rfl, h4, h5⟩
      · exact show s.sc.role ≠ .none by simp [hr]
      · simp [State.fencing, h]
    ports := rfl
    share := fun _ => id
    cvu := fun _ => rfl
    flow := flowInBounds_of_le s (.inr ⟨rfl, rfl, rfl⟩) (Nat.zero_le _) rfl hbuf.1 (Nat.le_of_eq hbuf.2)
    mrl := id }

/-- Between FILLING and SHADOW hold and the timers stand (R120, R121, R142); SYNCED is clear in both (R147). -/
theorem Orderly.setSc_receiving (x : SessionState) (b : Bool) (h : s.receiving = true) (hx : x = .filling ∨ x = .shadow) :
    Orderly C s (s.setSc { s.sc with state := x, unsynced := b }) := by
  obtain ⟨hr, hs⟩ := s.receiving_session h
  refine .setSc s _ rfl rfl ⟨fun _ hc => ?_, fun _ => ?_, fun hy hsy => ?_, fun _ => ?_⟩
  · rw [clocksFollowState_iff] at hc ⊢
    rcases hx with rfl | rfl <;> rcases hs with hs | hs <;>
      simpa [State.sending_eq, State.receiving_eq, hr, hs] using hc
  · rcases hx with rfl | rfl <;> simp [StateFitsRole, hr]
  · have hi := (hy hsy).1
    rcases hs with hs | hs <;> simp [hs] at hi
  · simp [State.fencing, h]

theorem Orderly.returnToFilling : Orderly C s s.returnToFilling := by
  unfold State.returnToFilling
  split
  · exact .setSc_receiving s _ _ (by simp [State.receiving, *]) (.inl rfl)
  · exact .refl

theorem Orderly.clearClean : Orderly C s s.clearClean := by
  unfold State.clearClean
  exact .ite (.after (.returnToFilling _) (.setSr_same s _ rfl rfl rfl)) .refl

theorem Orderly.releaseTaken (h : s.receiving = true) : Orderly C s s.releaseTaken := by
  have hr := (s.receiving_session h).1
  unfold State.releaseTaken
  refine .ite ?_ (.ite (.endTarget s hr) (.targetFault s _ h))
  exact .trans (.raise s .released) (.endTarget_synced (s.raise .released) hr)

/-! ### Marks -/

theorem Orderly.dropMark (k : MarkKind) : Orderly C s (s.dropMark k) := by
  have h : Orderly C s ((s.count .discarded).capture .discard none (.markKind k.code)) :=
    .after (.capture _ _ _ _) (.count s _)
  exact .ite (.after (.detachComplete _) h) h

/-- A mark is pending only behind a full TXQ (R89). -/
theorem Orderly.appendMark (k : MarkKind) : Orderly C s (s.appendMark k) := by
  unfold State.appendMark
  split
  · exact .appendTx s _ (by simp_all [Config.txqPlaces])
  · rename_i hroom
    split
    · rename_i hwait
      refine .setSt s _ rfl (fun ⟨h1, h2, h3, hrest⟩ => ⟨h1, ?_, fun _ => ?_, hrest⟩) id
      · simpa [Config.pendingMarkPlaces] using hwait
      · by_contra hn
        exact hn (h3 fun hp => hroom ⟨Nat.lt_of_le_of_ne h1 hn, hp⟩)
    · exact .dropMark s k

theorem Orderly.appendPending (h : s.st.pendingMarks = []) : Orderly C s s.appendPending := by
  unfold State.appendPending
  rw [h]
  exact .refl

/-! ### Passes -/

theorem Orderly.zeroCounts : Orderly C s s.zeroCounts := .setGm s _ rfl
theorem Orderly.dropNext : Orderly C s s.dropNext := .setGm s _ rfl
theorem Orderly.startRinse : Orderly C s s.startRinse := .after (.zeroCounts _) (.setSe s _)
theorem Orderly.rinseOrWait : Orderly C s s.rinseOrWait := .ite (.startRinse s) (.setSe s _)
theorem Orderly.finishScan : Orderly C s s.finishScan := .after (.appendMark _ _) (.setSe s _)
theorem Orderly.startScan : Orderly C s s.startScan := .ite (.after (.finishScan _) (.setSe s _)) (.setSe s _)

/-- A pass runs: on a SOURCE in SWEEP or RINSE, for the claim about the clocks with no DETACH accepted (R71, R72, R80). -/
def State.Passing (C : Prop) (s : State) : Prop :=
  s.sc.role = .source ∧ (s.sc.state = .sweep ∨ s.sc.state = .rinse) ∧ (C → s.sc.releasePending = false)

/-- Hold and its timer start with CUTOVER (R26, R164, R165). -/
theorem Orderly.startHold (h : s.Passing C) :
    Orderly C s ((s.setCp { s.cp with hold := true }).setSc { s.sc with holdTimer := .started, state := .cutover }) := by
  obtain ⟨hr, hs, hp⟩ := h
  refine .of_session rfl rfl rfl ⟨fun hC hc => ?_, fun _ => ?_, fun hy hsy => ?_, fun hf => ?_⟩
  · have hp := hp hC
    rw [clocksFollowState_iff] at hc ⊢
    rcases hs with hs | hs <;> simp_all [State.sending_eq, State.receiving_eq, Timer.started]
  · simp [StateFitsRole, hr]
  · have hi := (hy hsy).1
    rcases hs with hs | hs <;> simp [hs] at hi
  · simp [State.fencing, State.receiving, State.targetIn, hr] at hf

/-- A pass that ends in SWEEP or RINSE, and SYNC_LOST in SHADOW, leave the SOURCE in RINSE with its timers (R73, R174). -/
theorem Orderly.setState_rinse (hr : s.sc.role = .source)
    (hs : s.sc.state = .sweep ∨ s.sc.state = .rinse ∨ s.sc.state = .shadow) : Orderly C s (s.setState .rinse) := by
  refine .setSc s _ rfl rfl ⟨fun _ hc => ?_, fun _ => ?_, fun hy hsy => ?_, fun hf => ?_⟩
  · rw [clocksFollowState_iff] at hc ⊢
    rcases hs with hs | hs | hs <;> simp_all [State.sending_eq, State.receiving_eq]
  · simp [StateFitsRole, hr]
  · have hi := (hy hsy).1
    rcases hs with hs | hs | hs <;> simp [hs] at hi
  · simp [State.fencing, State.receiving, State.targetIn, hr] at hf

/-- Hold and its timer end with CUTOVER (R165). -/
theorem Orderly.endHold (x : SessionState) (t : Timer) (ht : t.running = false) (hr : s.sc.role = .source)
    (hs : s.sc.state = .cutover) (hx : x = .rinse ∨ x = .shadow) : Orderly C s ((s.setCp { s.cp with hold := false }).setSc
      { s.sc with holdTimer := t, awaitingReady := false, state := x }) := by
  refine .of_session rfl rfl rfl ⟨fun _ hc => ?_, fun _ => ?_, fun hy hsy => ?_, fun hf => ?_⟩
  · rw [clocksFollowState_iff] at hc ⊢
    rcases hx with rfl | rfl <;> simp_all [State.sending_eq, State.receiving_eq]
  · rcases hx with rfl | rfl <;> simp [StateFitsRole, hr]
  · have hi := (hy hsy).1
    simp [hs] at hi
  · simp [State.fencing, State.receiving, State.targetIn, hr] at hf

/-- Marks but RELEASE leave SC (R89). -/
theorem State.appendMark_sc (k : MarkKind) (hk : k ≠ .release) : (s.appendMark k).sc = s.sc :=
  (s.appendMark_frame k hk).2.2.2.2.2.2.1

theorem Orderly.enterCutover (h : s.Passing C) : Orderly C s s.enterCutover := by
  have hr : s.sc.role ≠ .target := by simp [h.1]
  exact .after (.startScan _) <| .after (.appendMark _ _) <|
    .after (.startHold (s.setCvu { s.cvu with attempts := s.cvu.attempts + 1 }) h) (.setCvu s _ hr fun _ => id)

theorem Orderly.cutoverTest (point : TestPoint) (hr : s.sc.role ≠ .target) : Orderly C s (s.cutoverTest point) :=
  .after (.raiseIf _ _ _) (.setCvu s _ hr fun _ => id)

theorem State.cutoverTest_sc (point : TestPoint) : (s.cutoverTest point).sc = s.sc := by
  simp [State.cutoverTest, State.raiseIf_eq]

/-- A pass end raises the share by one at most, up to 15 (R155, R156). -/
theorem Orderly.takePassEnd (hr : s.sc.role ≠ .target) : Orderly C s s.takePassEnd := by
  refine .after (.raiseIf _ _ _) <| .after (.raiseIf _ _ _) <| .after (.setCvu _ _ hr fun _ h => ?_) (.setGm s _ rfl)
  dsimp only
  split
  · rename_i hlt
    simp only [Bool.and_eq_true, decide_eq_true_eq, Config.maxShare] at hlt
    exact ⟨Nat.le_add_left _ _, of_decide_eq_true hlt.2⟩
  · exact h

theorem State.takePassEnd_sc : s.takePassEnd.sc = s.sc := by simp [State.takePassEnd, State.raiseIf_eq]

theorem Orderly.passEnd (h : s.Passing C) : Orderly C s s.passEnd := by
  unfold State.passEnd
  extract_lets _ s1 s2 s3 s4 _ u
  have hsc : u.sc = s.sc := by
    have h2 : s2.sc = s.sc := s1.appendMark_sc _ (by simp)
    exact (State.takePassEnd_sc s2).trans h2
  have hu : u.Passing C := by simpa only [State.Passing, hsc] using h
  obtain ⟨hr, hs, -⟩ := h
  have hr2 : s2.sc.role ≠ .target := by
    rw [show s2.sc = s.sc from s1.appendMark_sc _ (by simp), hr]
    simp
  have hk : Orderly C s u := .after (.setSe _ _) <| .after (.raise _ _) <| .after (.takePassEnd _ hr2) <|
    .after (.appendMark _ _) (.setSe s _)
  have hrinse : ∀ v : State, v.sc = s.sc → Orderly C v (v.setState .rinse) := fun v hv =>
    .setState_rinse v (hv ▸ hr) (hv ▸ hs.imp_right .inl)
  exact .ite (.after (hrinse _ hsc) <| .after (.setSe _ _) hk) <|
    .ite (.after (.enterCutover _ hu) hk) (.after (.rinseOrWait _) <| .after (hrinse u hsc) hk)

/-- The end of a pass or a round (R71, R72, R78). -/
theorem Orderly.scanCheck (hr : s.sc.role = .source) (hp : C → s.sc.releasePending = false) : Orderly C s s.scanCheck := by
  unfold State.scanCheck
  refine .ite .refl ?_
  split
  · exact .ite (.passEnd s ⟨hr, .inl ‹_›, hp⟩) .refl
  · exact .ite (.passEnd s ⟨hr, .inr ‹_›, hp⟩) .refl
  · exact .ite (.finishScan s) (.ite (.setSe s _) .refl)
  · exact .refl

/-! ### One granule moves -/

theorem Orderly.wake : Orderly C s s.wake := .ite (.startRinse s) .refl

theorem Orderly.syncLost (h : s.sourceIn .shadow = true) : Orderly C s s.syncLost := by
  simp only [State.sourceIn, Bool.and_eq_true, beq_iff_eq] at h
  have hsc := s.appendMark_sc .syncLost (by simp)
  refine .after (.startRinse _) <| .after (.dropNext _) <| .after (.setCvu _ _ ?_ fun _ => id) <| .after (.raise _ _) <|
    .after (.setState_rinse _ (hsc ▸ h.1) (hsc ▸ .inr (.inr h.2))) (.appendMark s _)
  have hr : (s.appendMark .syncLost).sc.role ≠ .target := by simp [hsc, h.1]
  exact hr

theorem Gm.dirtied_localFences (g : Gm) (i : Nat) (between : Bool) : (g.dirtied i between).localFences = g.localFences := by
  rw [Gm.dirtied_eq]

theorem Orderly.dirty (g : Nat) : Orderly C s (s.dirty g) := by
  unfold State.dirty
  extract_lets s1 s2
  have h1 : Orderly C s s1 := .setGm s _ (Gm.dirtied_localFences _ _ _)
  have h2 : Orderly C s s2 := .ite (.after (.wake _) h1) h1
  have hsc : s2.sc = s.sc := by
    unfold s2 State.wake
    split
    · split <;> rfl
    · rfl
  split
  · exact .after (.syncLost s2 (by simpa only [State.sourceIn, hsc] using ‹s.sourceIn .shadow = true›)) h2
  · exact h2

theorem Orderly.markDirty (g : Nat) : Orderly C s (s.markDirty g) := by
  obtain ⟨-, h⟩ | ⟨-, h⟩ | ⟨-, -, h⟩ := s.markDirty_cases g <;> rw [h]
  · exact .dirty s g
  · exact .setSe s _
  · exact .refl

/-! ### Visits and closes -/

theorem State.belowCeiling_iff : s.belowCeiling = true ↔ s.st.txq.length < 48 :=
  ⟨of_decide_eq_true, decide_eq_true⟩

/-- SE works on a SOURCE with no DETACH accepted (R80). -/
theorem State.sweeping_session (h : s.sweeping = true) : s.sc.role = .source ∧ s.sc.releasePending = false := by
  simp only [State.sweeping, State.sourceIn, Bool.and_eq_true, Bool.or_eq_true, beq_iff_eq, Bool.not_eq_true'] at h
  exact ⟨by tauto, h.2⟩

theorem Orderly.openGranule (g : Nat) (h : s.st.txq.length < 48) : Orderly C s (s.openGranule g) :=
  .after (.appendTx _ _ (Nat.lt_trans h (by omega))) (.setSe s _)

theorem Orderly.stepVisit : Orderly C s s.stepVisit := .ite (.setSe s _) (.setSe s _)

theorem Orderly.visit : Orderly C s s.visit := by
  unfold State.visit
  split
  · rename_i hv
    simp only [State.mayVisit, Bool.and_eq_true, State.belowCeiling_iff] at hv
    obtain ⟨⟨⟨⟨hw, -⟩, -⟩, -⟩, hq⟩ := hv
    obtain ⟨hr, hp⟩ := s.sweeping_session hw
    have hstep : s.stepVisit.sc = s.sc ∧ s.stepVisit.st = s.st := by
      unfold State.stepVisit
      split <;> exact ⟨rfl, rfl⟩
    split
    · unfold State.visitGranule
      refine (Orderly.stepVisit s).trans ?_
      split
      · exact .openGranule _ _ (hstep.2 ▸ hq)
      · exact .openGranule _ _ (hstep.2 ▸ hq)
      · exact .scanCheck _ (hstep.1 ▸ hr) fun _ => hstep.1 ▸ hp
    · exact .refl
  · exact .refl

theorem Gm.close_localFences (x : Gm) (i : Nat) (e : Option GranuleState) (stale : Bool) :
    (x.close i e stale).localFences = x.localFences := by
  obtain ⟨a, b, nc, -, -, h⟩ | h := x.close_cases i e stale <;> rw [h]
  rfl

theorem Orderly.closeGranule (r : OpenRecord) (hw : s.sweeping = true) (hq : s.st.txq.length < 48) :
    Orderly C s (s.closeGranule r) := by
  obtain ⟨hr, hp⟩ := s.sweeping_session hw
  have hsc : ∀ e, (s.appendTx e).sc = s.sc := fun e => by
    rw [State.appendTx_eq]
    rfl
  refine .after (.scanCheck _ ?_ ?_) <| .after (.setSe _ _) <| .after (.setGm _ _ (Gm.close_localFences _ _ _ _))
    (.appendTx s _ (Nat.lt_trans hq (by omega)))
  · exact (congrArg Sc.role (hsc _)).trans hr
  · exact fun _ => (congrArg Sc.releasePending (hsc _)).trans hp

theorem Orderly.closeIfDue : Orderly C s s.closeIfDue := by
  cases h : s.closeDue with
  | none =>
    rw [s.closeIfDue_none h]
    exact .refl
  | some r =>
    obtain ⟨-, hw, -, hq⟩ := s.closeDue_some h
    simp only [State.closeIfDue, h]
    exact .closeGranule s r hw hq

theorem Orderly.holdExpired (h : s.sourceIn .cutover = true) : Orderly C s s.holdExpired := by
  simp only [State.sourceIn, Bool.and_eq_true, beq_iff_eq] at h
  have hsc := s.appendMark_sc (.cutoverAbort (BitVec.ofNat 8 s.cvu.attempts)) (by simp)
  unfold State.holdExpired
  extract_lets s1 s2 _ s3 s4 u
  have hu : Orderly C s u := .after (.raise _ _) <| .after (.rinseOrWait _) <| .after (.dropNext _) <|
    .after (.endHold s1 .rinse ⟨false, _⟩ rfl (hsc ▸ h.1) (hsc ▸ h.2) (.inl rfl)) (.appendMark s _)
  have hr : u.sc.role ≠ .target := by simp [hu.role, h.1]
  exact .ite (.after (.raise _ _) <| .after (.setCvu _ _ hr fun _ => id) hu) hu

/-! ### Captured and failed writes -/

theorem Orderly.degrade (a : LineAddr) : Orderly C s (s.degrade a) :=
  .after (.capture _ _ _ _) <| .after (.count _ _) (.markDirty s _)

/-- A mirror made raises the counter with the record's sequence (R46, R94). -/
theorem MrlConsecutive.append {t : State} (h : MrlConsecutive s) (g : Nat)
    (hm : t.st.mrl = s.st.mrl ++ [⟨s.st.mirrorSeq, g⟩]) (hq : t.st.mirrorSeq = s.st.mirrorSeq + 1) : MrlConsecutive t := by
  intro i hi
  simp only [hm, List.length_append, List.length_singleton] at hi ⊢
  rw [hq]
  by_cases hlt : i < s.st.mrl.length
  · have hsub : s.st.mrl.length + 1 - i = s.st.mrl.length - i + 1 := by omega
    rw [List.getElem_append_left hlt, h i hlt, hsub, BitVec.ofNat_add]
    exact (add_sub_add_right_eq_sub _ _ _).symm
  · have hlen : i = s.st.mrl.length := by omega
    subst hlen
    simp

theorem Orderly.mirror (a : LineAddr) (m : ByteMask) (data : LineData) (h : s.mirrorRoom = true) :
    Orderly C s (s.mirror a m data) := by
  simp only [State.mirrorRoom, Bool.and_eq_true] at h
  have ht : s.st.txq.length < 64 := of_decide_eq_true h.1
  have hm : s.st.mrl.length < 128 := of_decide_eq_true h.2
  have hst : ∀ e, (s.appendTx e).st = { s.st with txq := s.st.txq ++ [e] } := fun e => by
    rw [State.appendTx_eq]
    rfl
  refine .after (.setSt _ _ rfl (fun ⟨h1, h2, h3, _, hrest⟩ => ⟨h1, h2, h3, ?_, hrest⟩) fun hc => ?_) (.appendTx s _ ht)
  · simp only [State.setSt_st, hst, List.length_append, List.length_singleton]
    exact hm
  · exact hc.append _ (granuleOf a.toNat) (by simp [hst]) (by simp [hst])

theorem Orderly.captureNotice (a : LineAddr) (m : ByteMask) (data : LineData) : Orderly C s (s.captureNotice a m data) := by
  unfold State.captureNotice
  refine .ite ?_ .refl
  split
  · exact .refl
  · exact .refl
  · split
    · exact .mirror s a m data ‹_›
    · exact .degrade s a

theorem Orderly.failureNotice (a : LineAddr) : Orderly C s (s.failureNotice a) :=
  .ite (.after (.capture _ _ _ _) (.markDirty s _)) .refl

end Sys2Proof.Machine

namespace Sys2Proof.Machine

open Sys2Proof

variable {C : Prop} (s : State)

/-! ### The receiver -/

theorem Orderly.raiseFreed : Orderly C s s.raiseFreed :=
  .setSr s _ rfl fun ⟨_, _, _, _, _, _, h7, _⟩ => ⟨h7, Nat.min_le_left _ _⟩

theorem Orderly.freeSlot : Orderly C s s.freeSlot := .ite (.raiseFreed s) .refl
theorem Orderly.setLatch (l : Option Latch) : Orderly C s (s.setLatch l) := .setSr_same s _ rfl rfl rfl
theorem Orderly.discard (f : Frame) : Orderly C s (s.discard f) := .after (.capture _ _ _ _) (.count s _)
theorem Orderly.discardTarget (f : Frame) : Orderly C s (s.discardTarget f) := .after (.clearClean _) (.discard s f)
theorem Orderly.protect (g a : Nat) : Orderly C s (s.protect g a) :=
  .after (.clearClean _) <| .after (.capture _ _ _ _) (.count s _)

theorem Orderly.decideNeed (g : Nat) : Orderly C s (s.decideNeed g) := .ite (.after (.clearClean _) (.capture s _ _ _)) .refl
theorem Orderly.decideLoss (e : BitVec 16) (g : Nat) : Orderly C s (s.decideLoss e g) :=
  .ite (.after (.clearClean _) (.capture s _ _ _)) (.setSr_same s _ rfl rfl rfl)
theorem Orderly.decideNeedFor (g : Option Nat) : Orderly C s (s.decideNeedFor g) := by
  cases g with
  | none => exact .refl
  | some g => exact .decideNeed s g

theorem Orderly.leaveHead : Orderly C s s.leaveHead := by
  refine .after (.freeSlot _) (.setSr s _ rfl fun ⟨_, _, _, _, _, _, h7, h8⟩ => ⟨?_, h8⟩)
  exact Nat.le_trans (by simp) h7

theorem Orderly.headBecomes (as : List Answer) (w : Option ApplyWrite) : Orderly C s (s.headBecomes as w) :=
  .ite (.leaveHead s) (.setSr_same s _ rfl rfl rfl)

theorem Orderly.settleLatch : Orderly C s s.settleLatch := .after (.setLatch _ _) (.decideNeedFor s _)

theorem Orderly.judgeMirror (f : Frame) (q : BitVec 16) (a : BitVec 32) (m : ByteMask) (data : LineData)
    (as : List Answer) : Orderly C s (s.judgeMirror f q a m data as) :=
  .ite (.after (.headBecomes _ _ _) (.discardTarget s f))
    (.ite (.after (.headBecomes _ _ _) (.protect s _ _)) (.headBecomes s _ _))

/-- A frame that leaves the head leaves the session as it is (R108). -/
theorem State.headBecomes_sc (as : List Answer) (w : Option ApplyWrite) : (s.headBecomes as w).sc = s.sc := by
  unfold State.headBecomes
  split
  · unfold State.leaveHead State.freeSlot
    split <;> rfl
  · rfl

theorem Orderly.processLine (f : Frame) (o : Byte) (p : Bool) (i : BitVec 10) (data : LineData) :
    Orderly C s (s.processLine f o p i data) := by
  have discarded : Orderly C s ((s.discardTarget f).headBecomes [] none) := .after (.headBecomes _ _ _) (.discardTarget s f)
  unfold State.processLine
  split
  · exact .ite (.ite (.after (.headBecomes _ _ _) (.protect s _ _)) (.after (.headBecomes _ _ _) (.setLatch s _))) discarded
  · exact discarded

theorem Orderly.processMirror (f : Frame) (q : BitVec 16) (a : BitVec 32) (m : ByteMask) (data : LineData) :
    Orderly C s (s.processMirror f q a m data) := by
  have expects : Orderly C s (s.setSr { s.sr with expected := q + 1 }) := .setSr_same s _ rfl rfl rfl
  exact .ite (.after (.headBecomes _ _ _) (.discardTarget s f)) <| .ite (.after (.judgeMirror _ _ _ _ _ _ _) expects)
    (.after (.judgeMirror _ _ _ _ _ _ _) <| .after (.decideLoss _ _ _) expects)

theorem Orderly.processOpen (f : Frame) (g : Nat) (o : Byte) : Orderly C s (s.processOpen f g o) := by
  unfold State.processOpen
  extract_lets prev as u
  have hu : Orderly C s u := .decideNeedFor s prev
  exact .ite (.after (.headBecomes _ _ _) <| .after (.setLatch _ _) hu)
    (.after (.headBecomes _ _ _) <| .after (.discardTarget _ _) <| .after (.setLatch _ _) hu)

theorem Orderly.processClose (g : Nat) (o : Byte) : Orderly C s (s.processClose g o) :=
  .after (.headBecomes _ _ _) <| .after (.setLatch _ _) (.decideNeedFor s _)

theorem Orderly.processMark (f : Frame) (n : Byte) (k : MarkKind) (h : s.receiving = true) :
    Orderly C s (s.processMark f n k) := by
  unfold State.processMark
  refine .ite (.after (.headBecomes _ _ _) (.discardTarget s f)) ?_
  cases k with
  | passEnd p d => exact .after (.headBecomes _ _ _) <| .after (.setSr_same _ _ rfl rfl rfl) (.settleLatch s)
  | cutoverBegin a => exact .after (.headBecomes _ _ _) <| .after (.setSr_same _ _ rfl rfl rfl) (.settleLatch s)
  | cutoverEnd =>
    exact .ite (.after (.headBecomes _ _ _) (.settleLatch s))
      (.after (.headBecomes _ _ _) <| .after (.discardTarget _ _) (.settleLatch s))
  | cutoverAbort a => exact .after (.headBecomes _ _ _) (.returnToFilling s)
  | syncLost => exact .after (.headBecomes _ _ _) (.returnToFilling s)
  | release =>
    have hr : (s.headBecomes [] none).receiving = true := by
      simpa only [State.receiving, State.targetIn, s.headBecomes_sc] using h
    exact .after (.releaseTaken _ hr) (.headBecomes s _ _)

theorem Orderly.processHead (f : Frame) : Orderly C s (s.processHead f) := by
  have unwanted : Orderly C s (if s.receiving then (s.discardTarget f).headBecomes [] none else s.leaveHead) :=
    .ite (.after (.headBecomes _ _ _) (.discardTarget s f)) (.leaveHead s)
  cases f with
  | line o p i d => exact .processLine s _ o p i d
  | mirror q a m d => exact .processMirror s _ q a m d
  | opening g o => exact .ite (.processOpen s _ _ _) (.leaveHead s)
  | close g o => exact .ite (.processClose s _ _) (.leaveHead s)
  | mark n k => exact .ite_of (fun h => .processMark s _ n k h) fun _ => .leaveHead s
  | hello n sp q => exact .ite (.after (.headBecomes _ _ _) (.discardTarget s _)) (.leaveHead s)
  | _ => exact unwanted

/-! ### Claims on the return list -/

theorem Orderly.appendReturn (f : Frame) (h : s.st.returnList.length < 16) : Orderly C s (s.appendReturn f) :=
  .setSt s _ rfl (fun ⟨h1, h2, h3, h4, _, hrest⟩ => ⟨h1, h2, h3, h4, by simpa using h, hrest⟩) id

theorem Orderly.answered : Orderly C s s.answered := by
  unfold State.answered
  split
  · exact .headBecomes s _ _
  · exact .refl

/-- READY(YES) takes the TARGET to SHADOW (R120). -/
theorem Orderly.appendReady (hq : s.st.returnList.length < 16) (hr : s.receiving = true) : Orderly C s s.appendReady :=
  .ite (.after (.setSc_receiving (s.appendReturn _) .shadow _ hr (.inr rfl)) (.appendReturn s _ hq))
    (.after (.setSr_same _ _ rfl rfl rfl) (.appendReturn s _ hq))

/-- Answers are claimed in FILLING and SHADOW alone (R117). -/
theorem State.firstClaim_answer {a : Answer} (h : s.firstClaim = some (.answer a)) : s.receiving = true := by
  unfold State.firstClaim at h
  split at h
  · cases h
  · split at h
    · assumption
    · cases h

theorem State.placeable_claim {c : Claim} (h : s.placeable = some c) : s.firstClaim = some c := by
  unfold State.placeable at h
  split at h
  · exact h
  · cases h

theorem Orderly.appendClaim {c : Claim} (h : s.placeable = some c) : Orderly C s (s.appendClaim c) := by
  have hq := s.placeable_room h
  cases c with
  | taken => exact .after (.setSc _ _ rfl rfl (.of_view rfl)) (.appendReturn s _ hq)
  | failed g => exact .after (.setSr_same _ _ rfl rfl rfl) <| .after (.count _ _) (.appendReturn s _ hq)
  | credit =>
    exact .after (.setSr _ _ rfl fun ⟨_, _, _, _, _, _, h7, _⟩ => ⟨h7, Nat.zero_le _⟩) (.appendReturn s _ hq)
  | answer a =>
    have hr := s.firstClaim_answer (s.placeable_claim h)
    cases a with
    | ready => exact .after (.answered _) (.appendReady s hq hr)
    | need g => exact .after (.answered _) <| .after (.count _ _) (.appendReturn s _ hq)
    | loss e d => exact .after (.answered _) <| .after (.count _ _) (.appendReturn s _ hq)
    | refuse n => exact .after (.answered _) (.appendReturn s _ hq)

theorem Orderly.pump : Orderly C s s.pump := by
  have settles : ∀ (n : Nat) (u : State), Orderly C u (State.pumpFor n u) := by
    intro n
    induction n with
    | zero => exact fun u => .refl
    | succ n ih =>
      intro u
      unfold State.pumpFor
      split
      · exact .after (ih _) (.appendClaim u ‹_›)
      · split
        · exact .after (ih _) (.processHead u _)
        · exact .refl
  exact settles _ s

theorem Orderly.applyGranted (w : ApplyWrite) : Orderly C s (s.applyGranted w) := by
  unfold State.applyGranted
  dsimp only
  split
  · exact .after (.setSr_same _ _ rfl rfl rfl) (.leaveHead s)
  · exact .leaveHead s

theorem Orderly.applyDone (g : Nat) (a : LineAddr) (fail : Bool) : Orderly C s (s.applyDone g a fail) := by
  unfold State.applyDone
  extract_lets u v
  have hu : Orderly C s u := .capture s _ _ _
  exact .ite (.ite (.after (.pump _) <| .after (.setSr_same _ _ rfl rfl rfl) <| .after (.decideNeed _ _) hu) hu) .refl

/-! ### Responses -/

theorem length_fillSlot (o : Byte) (i : BitVec 10) (p : Bool) (data : LineData) (q : List TxEntry) :
    (fillSlot o i p data q).length = q.length := by
  induction q with
  | nil => rfl
  | cons e rest ih =>
    unfold fillSlot
    split
    · rename_i heq
      cases heq
    · rename_i heq
      cases heq
      split <;> simp [ih]
    · rename_i heq
      cases heq
      simp [ih]

theorem Orderly.clientResponse (r : MemRecord) (q : MemResponse) : Orderly C s (s.clientResponse r q) := by
  unfold State.clientResponse
  dsimp only
  split
  · exact .after (.failureNotice _ _) (.emit s _ rfl)
  · exact .emit s _ rfl

theorem Orderly.fillLine (a : LineAddr) (o : Byte) (i : BitVec 10) (data : LineData) (poison : Bool) :
    Orderly C s (s.fillLine a o i data poison) := by
  unfold State.fillLine
  extract_lets g _ u _ v
  have hlen := length_fillSlot o i poison data s.st.txq
  have hu : Orderly C s u :=
    .setSt s _ rfl (fun ⟨h1, h2, h3, hrest⟩ => ⟨hlen ▸ h1, h2, fun hp => hlen.trans (h3 hp), hrest⟩) id
  have hv : Orderly C s v := .after (.setSe u _) hu
  exact .ite (.after (.capture _ _ _ _) <| .after (.count _ _) hv) hv

theorem Orderly.route (r : MemRecord) (q : MemResponse) : Orderly C s (s.route r q) := by
  unfold State.route
  split
  · exact .clientResponse s _ _
  · exact .fillLine s _ _ _ _ _
  · exact .applyDone s _ _ _
  · exact .refl

/-! ### The transmitter -/

theorem Timer.running_restartIfRunning (t : Timer) : t.restartIfRunning.running = t.running := by
  unfold Timer.restartIfRunning
  split
  · exact (‹t.running = true›).symm
  · rfl

theorem Orderly.sendFrame (f : Frame) : Orderly C s (s.sendFrame f) :=
  .after (.emit _ _ rfl) (.setSt s _ (Timer.running_restartIfRunning _) id id)

theorem Orderly.afterSend (f : Frame) : Orderly C s (s.afterSend f) := by
  unfold State.afterSend
  split
  · exact .setSt s _ rfl id id
  · split
    · rename_i h
      refine .setSc s _ rfl rfl ⟨fun _ hc => ?_, id, id, id⟩
      obtain ⟨h1, h2, h3, h4, h5, -, h7⟩ := hc
      exact ⟨h1, h2, h3, h4, h5, fun _ => h, h7⟩
    · exact .refl
  · exact .detachComplete s
  · exact .refl

/-- The head leaves the TXQ, is sent, and the oldest pending mark takes its place, so that the others stand behind a full TXQ
again (R86, R89). -/
theorem Orderly.popHead (f : Frame) (e : TxEntry) (rest : List TxEntry) (h : s.st.txq = e :: rest) : Orderly C s
    (((s.setSt { s.st with txq := s.st.txq.tail, sendCredits := s.st.sendCredits - 1, keepDue := false }).sendFrame
      f).appendPending) := by
  cases hp : s.st.pendingMarks with
  | nil =>
    refine .after (.appendPending _ hp) <| .after (.sendFrame _ _) <|
      .setSt s _ rfl (fun ⟨h1, h2, _, h4, h5, h6, hrest⟩ => ⟨?_, h2, fun hn => absurd hp hn, h4, h5, ?_, hrest⟩) id
    · exact Nat.le_trans (by simp) h1
    · exact Nat.le_trans (Nat.sub_le _ _) h6
  | cons m marks =>
    let popped : St := { s.st with
      txq := s.st.txq.tail ++ [.frame (.mark m.session m.kind)]
      pendingMarks := marks
      sendCredits := s.st.sendCredits - 1
      keepDue := false }
    have hpopped : Orderly C s (s.setSt popped) := by
      refine .setSt s _ rfl (fun ⟨_, h2, h3, h4, h5, h6, hrest⟩ => ?_) id
      have hlen : popped.txq.length = 64 := by
        have hfull := h3 (by simp [hp])
        simp [popped, h] at hfull ⊢
        exact hfull
      rw [hp] at h2
      exact ⟨Nat.le_of_eq hlen, Nat.le_of_succ_le h2, fun _ => hlen, h4, h5, Nat.le_trans (Nat.sub_le _ _) h6, hrest⟩
    refine .trans hpopped <| .trans (.sendFrame _ f) ?_
    unfold State.appendPending
    have hpend : ((s.setSt { s.st with txq := s.st.txq.tail, sendCredits := s.st.sendCredits - 1, keepDue := false }).sendFrame
        f).st.pendingMarks = m :: marks := hp
    rw [hpend]
    exact .raiseIf ((s.setSt popped).sendFrame f) _ _

theorem Orderly.sendHead (f : Frame) (h : s.sendable = some f) : Orderly C s (s.sendHead f) := by
  unfold State.sendable at h
  split at h
  · rename_i e rest hq
    exact .after (.closeIfDue _) <| .after (.afterSend _ _) (.popHead s f e rest hq)
  · cases h

theorem Orderly.sendKeep : Orderly C s s.sendKeep := .after (.sendFrame _ _) (.setSt s _ rfl id id)

theorem Orderly.transmit : Orderly C s s.transmit := by
  unfold State.transmit
  refine .ite ?_ .refl
  split
  · exact .sendHead s _ ‹_›
  · exact .ite (.sendKeep s) .refl

theorem Orderly.keepaliveSource (ready : Bool) : Orderly C s (s.keepaliveSource ready) :=
  .ite (.sendKeep s) (.setSt s _ rfl id id)

/-! ### The answers of the TARGET -/

theorem Orderly.streamDirty (g : Nat) : Orderly C s (s.streamDirty g) := .ite .refl (.markDirty s g)

theorem Orderly.takeNeed (g : Nat) : Orderly C s (s.takeNeed g) := by
  have h : Orderly C s ((s.count .needs).streamDirty g) := .after (.streamDirty _ _) (.count s _)
  exact .after (.capture _ _ _ _) (.ite (.after (.count _ _) h) h)

theorem Orderly.dirtyRecords (rs : List MirrorRecord) : Orderly C s (s.dirtyRecords rs) := by
  induction rs generalizing s with
  | nil => exact .refl
  | cons r rs ih => exact .after (ih _) (.streamDirty s _)

theorem Orderly.takeLoss (e d : BitVec 16) : Orderly C s (s.takeLoss e d) :=
  .after (.capture _ _ _ _) <| .after (.dirtyRecords _ _) (.ite (.after (.count _ _) (.count s _)) (.count s _))

/-- The oldest records leave the MRL: those that stay keep their sequences (R94). -/
theorem MrlConsecutive.drop {t : State} (h : MrlConsecutive s) (n : Nat) (hm : t.st.mrl = s.st.mrl.drop n)
    (hq : t.st.mirrorSeq = s.st.mirrorSeq) : MrlConsecutive t := by
  intro i hi
  simp only [hm, List.length_drop] at hi ⊢
  have hsub : s.st.mrl.length - n - i = s.st.mrl.length - (n + i) := by omega
  rw [List.getElem_drop, h (n + i) (by omega), hq, hsub]

theorem Orderly.dropMirrors (n : Nat) : Orderly C s (s.setSt { s.st with mrl := s.st.mrl.drop n }) :=
  .setSt s _ rfl (fun ⟨h1, h2, h3, h4, hrest⟩ => ⟨h1, h2, h3, Nat.le_trans (by simp) h4, hrest⟩)
    fun h => h.drop s n rfl rfl

theorem Orderly.settle : Orderly C s s.settle := by
  unfold State.settle
  split
  · exact .refl
  · exact .after (.capture _ _ _ _) <| .after (.count _ _) <| .after (.dirtyRecords _ _) (.dropMirrors s _)

/-- An acknowledgement removes some of the oldest records, or none (R95). -/
theorem ackRemove_eq_drop (a : BitVec 16) (mrl : List MirrorRecord) : ∃ n, ackRemove a mrl = mrl.drop n := by
  unfold ackRemove
  split
  · split
    · exact ⟨_, rfl⟩
    · exact ⟨0, rfl⟩
  · exact ⟨0, rfl⟩

theorem Orderly.takeCredit (n : Nat) (a : BitVec 16) : Orderly C s (s.takeCredit n a) := by
  unfold State.takeCredit
  extract_lets sum _ s1 s2 _ s3
  have h1 : Orderly C s s1 :=
    .setSt s _ rfl (fun ⟨h1, h2, h3, h4, h5, _, hrest⟩ => ⟨h1, h2, h3, h4, h5, Nat.min_le_left _ _, hrest⟩) id
  have h2 : Orderly C s s2 := .ite (.after (.count _ _) h1) h1
  have h3 : Orderly C s s3 := by
    obtain ⟨n, hn⟩ := ackRemove_eq_drop a s2.st.mrl
    unfold s3
    rw [hn]
    exact .after (.dropMirrors s2 n) h2
  exact .ite (.after (.count _ _) h2) (.ite (.after (.settle _) h3) h3)

end Sys2Proof.Machine

namespace Sys2Proof.Machine

open Sys2Proof

variable {C : Prop} (s : State)

/-! ### Frames that arrive -/

theorem Orderly.lostFrame (len : Nat) : Orderly C s (s.lostFrame len) :=
  .ite_of (fun _ => .ite .refl (.after (.pump _) <| .after (.clearClean _) (.raiseFreed s))) fun _ =>
    .ite_of (fun h => .sourceLinkLoss s _ (s.sending_session h)) fun _ => .refl

theorem Orderly.crcFailed (bs : List Byte) : Orderly C s (s.crcFailed bs) :=
  .after (.lostFrame _ _) <| .after (.capture _ _ _ _) (.count s _)
theorem Orderly.malformed (bs : List Byte) : Orderly C s (s.malformed bs) :=
  .after (.lostFrame _ _) <| .after (.capture _ _ _ _) (.count s _)
theorem Orderly.restartSilent : Orderly C s s.restartSilent := .ite (.setSr_same s _ rfl rfl rfl) .refl

/-- A TARGET in LISTEN begins its session: the silent and the keepalive timer start with FILLING (R107, R130). -/
theorem Orderly.acceptHello (n : Byte) (first : BitVec 16) (hr : s.sc.role = .target) (hs : s.sc.state = .listen)
    (hq : s.st.returnList.length < 16) : Orderly C s (s.acceptHello n first) := by
  refine .after (t := ((s.setSc { s.sc with session := n, state := .filling }).setSr { s.sr with
    buffer := [], head := none, latch := none, expected := first, lastGranted := first - 1, clean := false, freed := 1,
    creditDue := false, failedApply := [], lastReport := none, silent := .started }).setSt { s.st with keepalive := .started })
    (.appendReturn _ _ hq) ?_
  exact {
    clocks := fun _ hc => by
      rw [clocksFollowState_iff] at hc ⊢
      simp_all [State.sending_eq, State.receiving_eq, Silent.started, Timer.started]
    fits := fun _ => by simp [StateFitsRole, hr]
    synced := fun hy hsy => by
      have hi := (hy hsy).1
      simp [hs] at hi
    fencing := fun _ => by simp [State.fencing, State.targetIn, hr, hs]
    ports := rfl
    share := fun _ => id
    cvu := fun _ => rfl
    flow := fun ⟨h1, h2, h3, h4, h5, h6, _, _⟩ => ⟨h1, h2, h3, h4, h5, h6, Nat.zero_le _, Nat.le_add_left 1 31⟩
    mrl := id }

theorem Orderly.helloInListen (f : Frame) (n : Byte) (span : BitVec 24) (first : BitVec 16) (hr : s.sc.role = .target)
    (hs : s.sc.state = .listen) : Orderly C s (s.helloInListen f n span first) :=
  .ite_of (fun _ => .discard s f) fun hq =>
    .ite (.acceptHello s n first hr hs (Nat.not_le.1 hq)) (.appendReturn s _ (Nat.not_le.1 hq))

theorem Orderly.helloInFault (f : Frame) (n : Byte) : Orderly C s (s.helloInFault f n) :=
  .ite_of (fun hq => .after (.appendReturn _ _ hq) (.discard s f)) fun _ => .discard s f

theorem Orderly.enterBuffer (f : Frame) : Orderly C s (s.enterBuffer f) := by
  unfold State.enterBuffer State.bufferOverflow
  split
  · exact .after (.pump _) <| .after (.raiseFreed _) <| .after (.setSr_same _ _ rfl rfl rfl) (.discardTarget s f)
  · rename_i hlt
    refine .after (.pump _) (.setSr s _ rfl fun ⟨_, _, _, _, _, _, _, h8⟩ => ⟨?_, h8⟩)
    simpa [Config.bufferSlots] using hlt

theorem Orderly.targetFrame (f : Frame) (hr : s.sc.role = .target) : Orderly C s (s.targetFrame f) := by
  unfold State.targetFrame
  split
  · exact .refl
  · split
    · exact .enterBuffer s f
    · exact .enterBuffer s f
    · split
      · exact .helloInListen s _ _ _ _ hr ‹_›
      · exact .discard s f
    · split
      · exact .helloInFault s _ _
      · exact .discard s f
    · exact .discard s f

theorem Orderly.countBadFences (fs : List WireFence) : Orderly C s (s.countBadFences fs) := by
  induction fs generalizing s with
  | nil => exact .refl
  | cons f fs ih => exact .after (ih _) (.ite (.count s _) .refl)

theorem Gm.merge_localFences (g : Gm) (span : Nat) : (g.merge span).localFences = g.localFences := by
  unfold Gm.merge
  split <;> rfl

theorem Orderly.loadPeer (fs : List WireFence) : Orderly C s (s.loadPeer fs) :=
  .after (.setGm _ _ (Gm.merge_localFences _ _)) <| .after (.countBadFences _ fs) (.setGm s _ rfl)

theorem State.loadPeer_sc (fs : List WireFence) : (s.loadPeer fs).sc = s.sc :=
  (State.countBadFences_frame (s.setGm { s.gm with peerFences := peerTable fs }) fs).2.2.2

/-- An accepting REPLY stops the handshake timer and starts the silent timer with SWEEP (R106, R130). -/
theorem Orderly.startSweep (hr : s.sc.role = .source) (hs : s.sc.state = .handshake) : Orderly C s
    ((s.setSc { s.sc with handshake := s.sc.handshake.stop, state := .sweep }).setSr { s.sr with silent := .started }) := by
  refine .of_session rfl rfl rfl ⟨fun _ hc => ?_, fun _ => ?_, fun hy hsy => ?_, fun hf => ?_⟩
  · rw [clocksFollowState_iff] at hc ⊢
    simp_all [State.sending_eq, State.receiving_eq, Silent.started, Timer.stop]
  · simp [StateFitsRole, hr]
  · have hi := (hy hsy).1
    simp [hs] at hi
  · simp [State.fencing, State.receiving, State.targetIn, hr] at hf

theorem Orderly.startPassZero (hr : s.sc.role = .source) (hp : C → s.sc.releasePending = false) :
    Orderly C s s.startPassZero :=
  .after (.scanCheck _ hr hp) <| .after (.zeroCounts _) <| .after (.dropNext _) (.setSe s _)

/-- An accepting REPLY opens pass 0. That RELEASE_PENDING stands in no HANDSHAKE is part of the claim about the clocks
(R125, R130). -/
theorem Orderly.replyAccepted (fs : List WireFence) (hr : s.sc.role = .source) (hs : s.sc.state = .handshake) :
    Orderly C s (s.replyAccepted fs) := by
  have hsc := s.loadPeer_sc fs
  have h : Orderly (s.sc.releasePending = false) s (s.replyAccepted fs) :=
    .after (.startPassZero _ (show (s.loadPeer fs).sc.role = .source from hsc ▸ hr)
        fun hp => show (s.loadPeer fs).sc.releasePending = false from hsc ▸ hp) <|
      .after (.startSweep _ (hsc ▸ hr) (hsc ▸ hs)) (.loadPeer s fs)
  refine { h with clocks := fun _ hc => h.clocks (eq_false_of_ne_true fun hp => ?_) hc }
  have hsend := (clocksFollowState_iff.1 hc).2.2.2.2.2.2 hp
  simp [State.sending_eq, hs] at hsend

theorem Orderly.takeReply (a : ReplyAnswer) (fs : List WireFence) (hr : s.sc.role = .source)
    (hs : s.sc.state = .handshake) : Orderly C s (s.takeReply a fs) := by
  have refused : ∀ a, Orderly C s (s.replyRefused a) := fun a =>
    .after (.endSource_idle _) (.setSc s _ rfl rfl (.of_view rfl))
  cases a with
  | accept => exact .replyAccepted s fs hr hs
  | refuseSpan => exact refused _
  | refuseState => exact refused _

theorem Orderly.takeReady (ok : Bool) (hr : s.sc.role = .source) (hs : s.sc.state = .cutover) :
    Orderly C s (s.takeReady ok) := by
  unfold State.takeReady
  split
  · have hrole : s.sc.role ≠ .target := by simp [hr]
    exact .after (.raise _ _) <| .after (.setCvu _ _ hrole fun _ => id)
      (.endHold s .shadow s.sc.holdTimer.stop rfl hr hs (.inr rfl))
  · have h : Orderly C s (s.setSc { s.sc with awaitingReady := false }) :=
      .setSc s _ rfl rfl ⟨fun _ ⟨h1, h2, h3, h4, h5, _, h7⟩ => ⟨h1, h2, h3, h4, h5, nofun, h7⟩, id, id, id⟩
    exact .after (.startScan _) (.ite (.after (.appendMark _ _) h) h)

theorem Orderly.takeTaken : Orderly C s s.takeTaken := .after (.raise _ _) (.flushSource_idle s)

theorem Orderly.sourceFrame (f : Frame) (hr : s.sc.role = .source) : Orderly C s (s.sourceFrame f) := by
  cases f with
  | keep => exact .refl
  | reply n a fs => exact .ite_of (fun h => .takeReply s a fs hr h.1) fun _ => .discard s _
  | credit n a => exact .ite (.takeCredit s _ _) (.discard s _)
  | need g => exact .ite (.takeNeed s _) (.discard s _)
  | loss e d => exact .ite (.takeLoss s _ _) (.discard s _)
  | ready n ok => exact .ite (.discard s _) (.ite_of (fun h => .takeReady s ok hr h.1) fun _ => .count s _)
  | taken n => exact .ite (.takeTaken s) (.discard s _)
  | _ => exact .discard s _

theorem Orderly.takeFrame (f : Frame) : Orderly C s (s.takeFrame f) := by
  unfold State.takeFrame
  split
  · exact .sourceFrame s f ‹_›
  · exact .targetFrame s f ‹_›
  · unfold State.idleFrame
    split
    · exact .refl
    · exact .discard s f

theorem Orderly.receive (bs : List Byte) : Orderly C s (s.receive bs) := by
  unfold State.receive
  refine .ite .refl (.ite (.crcFailed s bs) ?_)
  dsimp only
  split
  · exact .after (.takeFrame _ _) (.restartSilent s)
  · exact .after (.malformed _ _) (.restartSilent s)

/-! ### Sends of the return list, expiries and the link -/

theorem Orderly.afterReturn (f : Frame) (hr : s.sc.role = .target) : Orderly C s (s.afterReturn f) := by
  unfold State.afterReturn
  split
  · exact .ite (.takeoverComplete s hr) (.pump s)
  · exact .pump s

theorem Orderly.sendReturn : Orderly C s s.sendReturn := by
  unfold State.sendReturn
  split
  · rename_i h
    split
    · rename_i f rest hq
      refine .after (.afterReturn _ _ h.1) <| .after (.sendFrame _ _)
        (.setSt s _ rfl (fun ⟨h1, h2, h3, h4, h5, hrest⟩ => ⟨h1, h2, h3, h4, ?_, hrest⟩) id)
      rw [hq] at h5
      exact Nat.le_of_succ_le h5
    · exact .refl
  · exact .refl

theorem Orderly.keepaliveTarget : Orderly C s s.keepaliveTarget := by
  have h : Orderly C s (s.setSt { s.st with keepalive := { s.st.keepalive with count := s.sc.params.ki } }) :=
    .setSt s _ rfl id id
  exact .ite (.after (.pump _) <| .after (.setSr_same _ _ rfl rfl rfl) h) h

theorem Orderly.keepaliveExpired (ready : Bool) : Orderly C s (s.keepaliveExpired ready) :=
  .ite (.ite (.keepaliveSource s ready) (.ite (.keepaliveTarget s) .refl)) .refl

theorem Orderly.targetLinkLoss (r : FaultReason)
    (h : s.receiving = true ∨ s.sc.role = .target ∧ s.sc.takeoverPending = true) : Orderly C s (s.targetLinkLoss r) := by
  refine .ite_of (fun _ => .takeoverComplete s (h.elim s.receiving_role And.left)) fun ht => ?_
  exact .after (.pump _) <| .after (.raise _ _) (.targetFault s r (h.resolve_right fun h => ht h.2))

theorem Orderly.silentExpired : Orderly C s s.silentExpired := by
  have h : Orderly C s (s.setSr { s.sr with silent := { s.sr.silent with us := 0, intervals := s.sc.params.sl } }) :=
    .setSr_same s _ rfl rfl rfl
  exact .ite (.ite_of (fun hs => .after (.sourceLinkLoss _ _ (s.sending_session hs)) h) fun _ =>
    .ite_of (fun hr => .after (.targetLinkLoss _ _ (.inl hr)) h) fun _ => h) .refl

theorem Orderly.linkGoesDown : Orderly C s s.linkGoesDown := by
  have h : Orderly C s (s.setSc { s.sc with linkUp := false }) := .setSc s _ rfl rfl (.of_view rfl)
  refine .ite_of (fun ht => .after (.sourceLinkLoss _ _ (s.transmitting_session ht)) h) fun _ =>
    .ite_of (fun hr => .after (.targetLinkLoss _ _ ?_) h) fun _ => h
  simpa [beq_eq_decide] using hr

/-! ### Commands that steer the sweep and the session -/

/-- PAUSE, RESUME and CUTOVER are taken where a pass runs (R76, R77, R163). -/
theorem State.passing_of_pausable (h : s.pausable = true) : s.Passing C := by
  by_cases hr : s.sc.role = .source
  · simp [State.pausable, State.sourceIn, hr] at h
    exact ⟨hr, h.1, fun _ => h.2⟩
  · simp [State.pausable, State.sourceIn, hr] at h

theorem State.Passing.not_target {s : State} (h : s.Passing C) : s.sc.role ≠ .target := by simp [h.1]

theorem Orderly.deferredTest (h : s.Passing C) : Orderly C s s.deferredTest := by
  unfold State.deferredTest
  extract_lets _ u
  have hu : Orderly C s u := .after (.cutoverTest _ _ h.not_target) (.setSe s _)
  have hsc : u.sc = s.sc := State.cutoverTest_sc _ _
  exact .ite (.after (.enterCutover _ (by simpa only [State.Passing, hsc] using h)) hu) (.after (.rinseOrWait _) hu)

theorem Orderly.resumeSweep (h : s.Passing C) : Orderly C s s.resumeSweep := by
  have hu : Orderly C s (s.setSe { s.se with paused := false }) := .setSe s _
  exact .ite (.ite (.after (.deferredTest _ h) hu) (.ite (.after (.rinseOrWait _) hu) hu)) .refl

theorem Orderly.skipTo (c : Cursor) (h : s.skippable = true) : Orderly C s (s.skipTo c) := by
  simp only [State.skippable, State.sourceIn, Bool.and_eq_true, beq_iff_eq, Bool.not_eq_true'] at h
  exact .ite .refl (.after (.scanCheck _ h.1.1 fun _ => h.2) (.setSe s _))

theorem Orderly.immediateTest (h : s.Passing C) : Orderly C s s.immediateTest := by
  have hu : Orderly C s (s.cutoverTest .command) := .cutoverTest s _ h.not_target
  exact .ite (.after (.enterCutover _ (by simpa only [State.Passing, State.cutoverTest_sc] using h)) hu) hu

theorem Orderly.armCutover (h : s.Passing C) : Orderly C s s.armCutover := by
  have hu : Orderly C s (s.setCvu { s.cvu with armed := true, attempts := 0 }) := .setCvu s _ h.not_target fun _ => id
  exact .ite (.after (.immediateTest _ h) hu) hu

/-- DETACH ends the hold and leaves the SOURCE sending (R125, R139, R165). -/
theorem Orderly.beginDetach (h : s.sending = true) : Orderly C s s.beginDetach := by
  obtain ⟨hr, -⟩ := s.sending_session h
  have hrelease : Orderly C s (s.setSc { s.sc with releasePending := true }).releaseHold := by
    refine .of_session rfl rfl rfl ⟨fun _ hc => ?_, id, id, id⟩
    rw [clocksFollowState_iff] at hc ⊢
    obtain ⟨-, -, h3, h4, h5, -, -⟩ := hc
    exact ⟨by simp [State.releaseHold], by simp [State.releaseHold, Timer.stop], h3, h4, h5, nofun, fun _ => h⟩
  exact .after (.appendMark _ _) <| .after (.setSe _ _) hrelease

/-- TAKEOVER is taken in a session, where SYNCED is clear (R143, R147). -/
theorem Orderly.beginTakeover (hr : s.sc.role = .target) (hs : s.sc.state ≠ .idle) : Orderly C s s.beginTakeover := by
  unfold State.beginTakeover
  extract_lets _ u
  have hu : Orderly C s u := .setSc s _ rfl rfl ⟨fun _ => id, id, fun hy hsy => absurd (hy hsy).1 hs, id⟩
  exact .ite (.after (.pump _) <| .after (.setSc _ _ rfl rfl (.of_view rfl)) hu) (.after (.takeoverComplete _ hr) hu)

theorem Orderly.abortSession : Orderly C s s.abortSession := by
  unfold State.abortSession
  refine .ite .refl ?_
  split
  · exact .flushSource_idle s
  · exact .endTarget s ‹_›
  · exact .refl

/-- START opens a session on a SOURCE in IDLE, with empty queues and the share of the parameters (R85, R128, R160). -/
theorem Orderly.openSession (h : s.sourceIn .idle = true) : Orderly C s s.openSession := by
  simp only [State.sourceIn, Bool.and_eq_true, beq_iff_eq] at h
  obtain ⟨hr, hs⟩ := h
  refine .after (t := ((((s.setSc s.sc.opened).setGm (s.gm.init s.sc.params.span)).setSt s.st.opened).setSe
    { Se.initial with plan := s.se.plan }).setCvu (.opened s.sc.params)) (.appendTx _ _ (Nat.zero_lt_succ 63)) ?_
  exact {
    clocks := fun _ hc => by
      rw [clocksFollowState_iff] at hc ⊢
      simp_all [State.sending_eq, State.receiving_eq, Sc.opened, St.opened, Timer.started]
    fits := fun _ => by simp [StateFitsRole, Sc.opened, hr]
    synced := fun _ => nofun
    fencing := fun hf => by simp [State.fencing, State.receiving, State.targetIn, Sc.opened, hr] at hf
    ports := rfl
    share := fun hp _ => hp
    cvu := fun ht => by simp [hr] at ht
    flow := fun ⟨_, _, _, _, h5, _, hrest⟩ =>
      ⟨Nat.zero_le _, Nat.zero_le _, fun hn => absurd rfl hn, Nat.zero_le _, h5, Nat.le_refl _, hrest⟩
    mrl := fun _ i hi => absurd hi (Nat.not_lt_zero i) }

/-! ### One tick -/

theorem Timer.running_tick (t : Timer) (limit : Nat) : (t.tick limit).running = t.running := by
  unfold Timer.tick
  split <;> rfl

theorem Silent.running_tick (t : Silent) (ki sl : Nat) : (t.tick ki sl).running = t.running := by
  unfold Silent.tick
  split
  · split <;> rfl
  · rfl

/-- One µs on a running part, from the state that the last step's outputs have left. -/
theorem Orderly.tick (h : s.phase = .running) : Orderly C (s.setOut []) s.tick := by
  have hview : ∀ u : State, Orderly C u (u.setSc { u.sc with
      handshake := u.sc.handshake.tick Config.handshakeLimit, holdTimer := u.sc.holdTimer.tick u.sc.params.hLimit }) :=
    fun u => .setSc u _ rfl rfl (.of_view (by simp [State.sessionView, Timer.running_tick]))
  unfold State.tick
  rw [if_pos h]
  exact .after (hview _) <| .after (.setSr_same _ _ (Silent.running_tick _ _ _) rfl rfl) <|
    .after (.setSt _ _ (Timer.running_tick _ _) id id) (.ite (.setSe _ _) .refl)

end Sys2Proof.Machine

namespace Sys2Proof.Machine

open Sys2Proof

/-! ### The claims themselves -/

/-- What every step keeps of the ports, the queues and the session. -/
structure Sound (s t : State) : Prop where
  balance : ClientCreditsBalance s → ClientCreditsBalance t
  table : RequestTableSound s → RequestTableSound t
  shares : SharesInRange s → SharesInRange t
  lists : ListsInBounds s → ListsInBounds t
  mrl : MrlConsecutive s → MrlConsecutive t
  clocks : ClocksFollowState s → ClocksFollowState t
  fits : StateFitsRole s → StateFitsRole t
  synced : SyncedAlone s → SyncedAlone t
  clear : ConvergenceClearOnTarget s → ConvergenceClearOnTarget t

/-- What every step but an arbitration keeps: the head stays judged, and no request goes to the memory side. -/
structure Guarded (s t : State) : Prop extends Sound s t where
  judged : HeadJudged s → HeadJudged t
  requests : t.out.filter Output.isRequest = s.out.filter Output.isRequest

section Relation

variable {s t u : State}

theorem Sound.trans (h : Sound s t) (k : Sound t u) : Sound s u where
  balance hs := k.balance (h.balance hs)
  table hs := k.table (h.table hs)
  shares hs := k.shares (h.shares hs)
  lists hs := k.lists (h.lists hs)
  mrl hs := k.mrl (h.mrl hs)
  clocks hs := k.clocks (h.clocks hs)
  fits hs := k.fits (h.fits hs)
  synced hs := k.synced (h.synced hs)
  clear hs := k.clear (h.clear hs)

theorem Sound.after (k : Sound t u) (h : Sound s t) : Sound s u := h.trans k

theorem Guarded.trans (h : Guarded s t) (k : Guarded t u) : Guarded s u :=
  ⟨h.toSound.trans k.toSound, fun hs => k.judged (h.judged hs), k.requests.trans h.requests⟩

theorem Guarded.after (k : Guarded t u) (h : Guarded s t) : Guarded s u := h.trans k

/-- The tags of the request table with the classes they go with, apart from the rest of the records. -/
theorem requestTableSound_iff : RequestTableSound s ↔
    s.portView.free + s.portView.records.length = 48 ∧
    (s.portView.queue.map ClientRequest.tagNo ++ s.portView.records.map Prod.fst).Nodup ∧
    ∀ r ∈ s.portView.records, r.2 = true := by
  simp [RequestTableSound, State.tagsInUse, State.portView, Function.comp_def]

/-- An operation inside an event keeps the claims. -/
theorem Orderly.guarded (h : Orderly True s t) : Guarded s t := by
  have hp := h.ports
  have hphase : t.phase = s.phase := congrArg PortView.phase hp
  have hqueue : t.cp.queue = s.cp.queue := congrArg PortView.queue hp
  have hcredits : t.cp.credits = s.cp.credits := congrArg PortView.credits hp
  have hk : t.mp.k = s.mp.k := congrArg PortView.k hp
  have hfences : t.gm.localFences = s.gm.localFences := congrArg PortView.fences hp
  have hparams := h.params
  have hrole := h.role
  exact {
    balance := by simp only [ClientCreditsBalance, hphase, hqueue, hcredits, imp_self]
    table := by
      rw [requestTableSound_iff, requestTableSound_iff, hp]
      exact id
    shares := fun ⟨h1, h2, h3, h4⟩ => by
      have hshare := h.share h4 ⟨h2, h3⟩
      rw [SharesInRange, hk, hparams]
      exact ⟨h1, hshare.1, hshare.2, h4⟩
    lists := fun ⟨h1, h2⟩ => ⟨by rw [hqueue]; exact h1, h.flow h2⟩
    mrl := h.mrl
    clocks := h.clocks trivial
    fits := h.fits
    synced := h.synced
    clear := fun hs ht => by
      have hr : s.sc.role = .target := hrole ▸ ht
      rw [h.cvu hr, hparams]
      exact hs hr
    judged := fun hj => by
      cases hf : t.fencing with
      | false => simp [HeadJudged, State.headRefused, hf]
      | true =>
        simp only [HeadJudged, State.headRefused, h.fencing hf, hf, hqueue, State.localCovers, hfences, hparams] at hj ⊢
        exact hj
    requests := congrArg PortView.requests hp }

theorem Guarded.refl : Guarded s s := (Orderly.refl : Orderly True s s).guarded

theorem Guarded.ite {c : Prop} [Decidable c] (h : c → Guarded s t) (k : ¬ c → Guarded s u) :
    Guarded s (if c then t else u) := by
  split
  · exact h ‹_›
  · exact k ‹_›

/-- An operation on the ports alone. -/
theorem Sound.of_ports (hs : t.sessionView = s.sessionView) (hf : t.flowView = s.flowView) (hc : t.cvu = s.cvu)
    (hp : t.sc.params = s.sc.params) (hb : ClientCreditsBalance s → ClientCreditsBalance t)
    (ht : RequestTableSound s → RequestTableSound t) (hq : s.cp.queue.length ≤ 32 → t.cp.queue.length ≤ 32)
    (hk : SharesInRange s → t.mp.k ≤ 15) : Sound s t := by
  have h : SessionKept True s t := .of_view hs
  have hrole : t.sc.role = s.sc.role := congrArg SessionView.role hs
  have hflow : t.st.mrl = s.st.mrl ∧ t.st.mirrorSeq = s.st.mirrorSeq := by
    simp only [State.flowView, Prod.mk.injEq] at hf
    exact ⟨hf.2.2.1, hf.2.2.2.1⟩
  exact {
    balance := hb
    table := ht
    shares := fun hs => by
      have hk := hk hs
      obtain ⟨-, hrest⟩ := hs
      rw [SharesInRange, hc, hp]
      exact ⟨hk, hrest⟩
    lists := fun ⟨h1, h2⟩ => ⟨hq h1, flowInBounds_congr hf h2⟩
    mrl := mrlConsecutive_congr hflow.1 hflow.2
    clocks := h.clocks trivial
    fits := h.fits
    synced := h.synced
    clear := by simp only [ConvergenceClearOnTarget, hrole, hc, hp, imp_self] }

end Relation

/-! ### The client port -/

section Ports

variable (s : State)

/-- A tag more in use is one that was free. -/
theorem tagsInUse_arrived (r : ClientRequest) (h : r.tagNo ∉ s.tagsInUse) (hn : s.tagsInUse.Nodup) :
    ((s.cp.queue ++ [r]).map ClientRequest.tagNo ++ s.mp.table.map MemRecord.tag).Nodup := by
  rw [List.map_append, List.append_assoc, List.map_singleton, List.singleton_append]
  refine (List.perm_middle.nodup_iff).2 (List.nodup_cons.2 ⟨h, hn⟩)

/-- A request joins the ingress queue (R21, R24). -/
theorem Sound.join (r : ClientRequest) (hp : s.phase = .running) (hq : s.cp.queue.length < 32) (hr : r.tagNo ∉ s.tagsInUse) :
    Sound s (s.setCp { s.cp with queue := s.cp.queue ++ [r], credits := s.cp.credits - 1 }) := by
  refine .of_ports rfl rfl rfl rfl (fun hb => ?_) (fun ⟨h1, h2, h3⟩ => ⟨h1, tagsInUse_arrived s r hr h2, h3⟩) (fun _ => ?_)
    And.left
  · simp only [ClientCreditsBalance, State.setCp_phase, State.setCp_cp, hp, if_true, List.length_append,
      List.length_singleton] at hb ⊢
    omega
  · simpa using hq

/-- A request leaves the ingress queue unserved and its credit goes back (R24, R28). -/
theorem Sound.refuseHead (t : Nat) (a : LineAddr) (h : s.cp.queue ≠ []) : Sound s (s.refuseHead t a) := by
  refine .of_ports rfl rfl rfl rfl (fun hb => ?_) (fun ⟨h1, h2, h3⟩ => ⟨h1, ?_, h3⟩) (fun hq => ?_) And.left
  · obtain ⟨r, rest, hr⟩ := List.exists_cons_of_ne_nil h
    by_cases hp : s.phase = .running
    · simp only [ClientCreditsBalance, hp, if_true, hr, List.length_cons] at hb
      have hcredits : (s.refuseHead t a).cp.credits = s.cp.credits + 1 := rfl
      have hqueue : (s.refuseHead t a).cp.queue = rest := by
        change s.cp.queue.tail = rest
        rw [hr]
        rfl
      have hphase : (s.refuseHead t a).phase = .running := hp
      simp only [ClientCreditsBalance, hphase, if_true, hcredits, hqueue]
      omega
    · simp only [ClientCreditsBalance, hp, if_false, hr] at hb
      exact nomatch hb.2
  · exact h2.sublist (((List.tail_sublist s.cp.queue).map _).append_right _)
  · exact Nat.le_trans (by simp [State.refuseHead, State.returnCredit, State.emit, State.count_eq, State.capture_eq]) hq

theorem refuseHead_requests (t : Nat) (a : LineAddr) :
    (s.refuseHead t a).out.filter Output.isRequest = s.out.filter Output.isRequest := by
  simp [State.refuseHead, State.returnCredit, State.emit, State.count_eq, State.capture_eq, Output.isRequest]

/-- Judging the head keeps the claims, whatever stands there (R28). -/
theorem Sound.judgeHead : Sound s s.judgeHead ∧
    s.judgeHead.out.filter Output.isRequest = s.out.filter Output.isRequest := by
  have judged : ∀ (n : Nat) (u : State), Sound u (State.judgeFor n u) ∧
      (State.judgeFor n u).out.filter Output.isRequest = u.out.filter Output.isRequest := by
    intro n
    induction n with
    | zero => exact fun u => ⟨Guarded.refl.toSound, rfl⟩
    | succ n ih =>
      intro u
      unfold State.judgeFor
      split
      · rename_i t a m d rest hq
        split
        · obtain ⟨h1, h2⟩ := ih (u.refuseHead t.val a)
          exact ⟨.after h1 (.refuseHead u _ _ (by simp [hq])), h2.trans (refuseHead_requests u _ _)⟩
        · exact ⟨Guarded.refl.toSound, rfl⟩
      · exact ⟨Guarded.refl.toSound, rfl⟩
  exact judged _ s

theorem Guarded.arrive (r : ClientRequest) (hp : s.phase = .running) : Guarded s (s.arrive r) := by
  unfold State.arrive
  refine .ite (fun _ => (Orderly.count s _).guarded) fun hq => ?_
  have hq : s.cp.queue.length < 32 := Nat.not_le.1 hq
  refine .ite (fun _ => .after (Orderly.count _ _).guarded ?_) fun hr => ?_
  · refine ⟨.of_ports rfl rfl rfl rfl (fun hb => ?_) id id And.left, id, by simp [State.returnCredit, State.emit,
      Output.isRequest]⟩
    simp only [ClientCreditsBalance, State.returnCredit_eq, State.setOut_phase, State.setCp_phase, State.setOut_cp,
      State.setCp_cp, hp, if_true] at hb ⊢
    omega
  · rw [State.tagOutstanding_iff] at hr
    obtain ⟨h1, h2⟩ := Sound.judgeHead (s.setCp { s.cp with queue := s.cp.queue ++ [r], credits := s.cp.credits - 1 })
    exact ⟨.after h1 (.join s r hp hq hr), fun _ => State.judgeHead_judged _, h2⟩

/-! ### The memory port -/

/-- One record of a table goes with its tag, where every tag is in use once. -/
theorem length_filter_tag {l : List MemRecord} {r : MemRecord} (hn : (l.map MemRecord.tag).Nodup) (hr : r ∈ l) :
    (l.filter fun x => x.tag != r.tag).length + 1 = l.length := by
  have hone : (l.map MemRecord.tag).count r.tag = 1 := List.count_eq_one_of_mem hn (List.mem_map_of_mem hr)
  rw [List.count, List.countP_map] at hone
  have hsplit := List.length_eq_countP_add_countP (fun x : MemRecord => x.tag == r.tag) (l := l)
  rw [show l.countP (fun x => x.tag == r.tag) = 1 from hone] at hsplit
  rw [hsplit, ← List.countP_eq_length_filter, Nat.add_comm]
  congr 1
  exact List.countP_congr fun x _ => by simp

/-- A record comes back with its credit (R33, R34). -/
theorem Guarded.takeRecord {tag : Nat} {r : MemRecord} (h : s.recordOf tag = some r) : Guarded s (s.takeRecord r.tag) := by
  refine ⟨.of_ports rfl rfl rfl rfl id (fun ⟨h1, h2, h3⟩ => ?_) id And.left, id, rfl⟩
  obtain ⟨hmem, htag⟩ := s.recordOf_some h
  have hsub : (s.mp.table.filter fun x => x.tag != r.tag).Sublist s.mp.table := List.filter_sublist
  refine ⟨?_, h2.sublist ((hsub.map _).append_left _), fun x hx => h3 x (hsub.subset hx)⟩
  have hlen := length_filter_tag (h2.sublist (List.sublist_append_right _ _)) hmem
  simp only [State.takeRecord_eq, State.setMp_mp]
  omega

theorem Guarded.respond (q : MemResponse) : Guarded s (s.respond q) := by
  unfold State.respond
  split
  · exact .ite (fun _ => .after (Orderly.route _ _ _).guarded (.takeRecord s ‹_›)) fun _ => (Orderly.count s _).guarded
  · exact (Orderly.count s _).guarded

/-- What an arbitration does (R36): nothing; the grant of the own request on offer; or the grant of the head request. Where both
classes are ready K takes its step before. -/
theorem State.arbitrate_cases :
    s.arbitrate = s ∨ ∃ k, (k = s.mp.k ∨ k = (arbiterStep s.mp.k s.cvu.share).1) ∧ 0 < s.mp.credits ∧
      ((∃ t o, s.ownReady = some (t, o) ∧ s.arbitrate = (s.setMp { s.mp with k := k }).grantOwn t o) ∨
        ∃ r rest, s.cp.queue = r :: rest ∧ s.clientReady = true ∧
          s.arbitrate = (s.setMp { s.mp with k := k }).grantClient r) := by
  have hhead : ∀ {r : ClientRequest}, s.cp.queue.head? = some r → s.cp.queue = r :: s.cp.queue.tail := fun h =>
    (List.cons_head?_tail h).symm
  unfold State.arbitrate
  split
  · exact .inl rfl
  · have hc : 0 < s.mp.credits := Nat.pos_of_ne_zero ‹_›
    split
    · rename_i r t o hq ho
      split
      · refine .inr ⟨_, .inr rfl, hc, ?_⟩
        dsimp only
        split
        · exact .inl ⟨t, o, ho, rfl⟩
        · exact .inr ⟨r, _, hhead hq, ‹_›, rfl⟩
      · exact .inr ⟨_, .inl rfl, hc, .inl ⟨t, o, ho, rfl⟩⟩
    · rename_i r hq _
      split
      · exact .inr ⟨_, .inl rfl, hc, .inr ⟨r, _, hhead hq, ‹_›, rfl⟩⟩
      · exact .inl rfl
    · rename_i t o _ ho
      exact .inr ⟨_, .inl rfl, hc, .inl ⟨t, o, ho, rfl⟩⟩
    · exact .inl rfl

/-- K takes its step within its range (R36, R37). -/
theorem arbiterStep_le {k share : Nat} (hk : k ≤ 15) (hs : share ≤ 15) : (arbiterStep k share).1 ≤ 15 := by
  unfold arbiterStep
  split <;> dsimp only <;> omega

theorem Guarded.setK (k : Nat) (h : k = s.mp.k ∨ k = (arbiterStep s.mp.k s.cvu.share).1) :
    Guarded s (s.setMp { s.mp with k := k }) := by
  refine ⟨.of_ports rfl rfl rfl rfl id id id (fun ⟨h1, _, h3, _⟩ => ?_), id, rfl⟩
  rcases h with rfl | rfl
  · exact h1
  · exact arbiterStep_le h1 h3

/-- A line read is on offer below the sweep ceiling (R65, R69). -/
theorem State.ownReady_sweep {t g i : Nat} {n : Byte} (h : s.ownReady = some (t, .sweep g n i)) :
    s.st.txq.length < 48 := by
  have ho := (s.ownReady_some h).2
  unfold State.ownOffer at ho
  split at ho
  · unfold State.offeredRead at ho
    split at ho
    · split at ho
      · rename_i hc
        simp only [Bool.and_eq_true, State.belowCeiling_iff] at hc
        exact hc.2
      · cases ho
    · cases ho
  · simp at ho
  · cases ho

/-- The grant of an own request: one record and one request under the tag, then what SE or SR does at the grant
(R32, R65, R114). -/
theorem State.grantOwn_record {C : Prop} {t : Nat} {o : OwnOffer} (h : s.ownReady = some (t, o)) :
    ∃ r q, r.tag = t ∧ r.tagged = true ∧ Orderly C (s.grantRecord r q) (s.grantOwn t o) := by
  obtain ⟨h1, h2, -⟩ := s.freeOwnTag_some (s.ownReady_some h).1
  cases o with
  | sweep g n i =>
    refine ⟨⟨t, .sweep (some (n, BitVec.ofNat 10 i)), .read, sweepAddr g i⟩, .read (sweepAddr g i), rfl, ?_, ?_⟩
    · simp [MemRecord.tagged, h1, h2]
    · exact .after (.closeIfDue _) <| .after (.setSe _ _) (.appendTx _ _ (Nat.lt_trans (s.ownReady_sweep h) (by omega)))
  | apply a =>
    refine ⟨⟨t, .apply a.granule true, a.kind, a.addr⟩, a.toMemory, rfl, ?_, .after (.pump _) (.applyGranted _ a)⟩
    simp [MemRecord.tagged, h1, h2]

theorem ClientRequest.tagNo_lt (r : ClientRequest) : r.tagNo < 64 := by
  cases r with
  | read t a => exact t.isLt
  | write t a m d => exact t.isLt

/-- An own request goes to the memory side under a tag of its own (R30, R32). -/
theorem Sound.grantRecord_own {r : MemRecord} (q : MemRequest) (hc : 0 < s.mp.credits) (hf : s.freeOwnTag = some r.tag)
    (ht : r.tagged = true) : Sound s (s.grantRecord r q) := by
  refine .of_ports rfl rfl rfl rfl id (fun ⟨h1, h2, h3⟩ => ⟨?_, ?_, ?_⟩) id And.left
  · simp only [State.grantRecord_eq, State.setOut_mp, State.setMp_mp, List.length_append, List.length_singleton]
    omega
  · obtain ⟨hlow, -, hfree⟩ := s.freeOwnTag_some hf
    have hnew : r.tag ∉ s.tagsInUse := by
      rw [State.tagsInUse, List.mem_append, not_or]
      refine ⟨fun hm => ?_, fun hm => ?_⟩
      · obtain ⟨x, -, hx⟩ := List.mem_map.1 hm
        have := ClientRequest.tagNo_lt x
        omega
      · rw [← State.recordOf_isSome, hfree] at hm
        cases hm
    change (s.cp.queue.map ClientRequest.tagNo ++ (s.mp.table ++ [r]).map MemRecord.tag).Nodup
    rw [List.map_append, ← List.append_assoc]
    exact (List.nodup_append_comm.1 (List.nodup_cons.2 ⟨hnew, h2⟩ : ([r.tag] ++ s.tagsInUse).Nodup))
  · intro x hx
    rcases List.mem_append.1 hx with hx | hx
    · exact h3 x hx
    · rw [List.mem_singleton.1 hx]
      exact ht

/-- What the head request leaves as it moves from the ingress queue to the memory side, before WCU is told (R31). -/
def State.forwarded (s : State) (r : ClientRequest) : State :=
  (s.setCp { s.cp with queue := s.cp.queue.tail }).returnCredit.grantRecord ⟨r.tagNo, .client, r.kind, r.line⟩ r.toMemory

theorem State.grantClient_eq (r : ClientRequest) : s.grantClient r = ((s.forwarded r).noticeGrant r).judgeHead := rfl

theorem Orderly.noticeGrant {C : Prop} (r : ClientRequest) : Orderly C s (s.noticeGrant r) := by
  cases r with
  | read t a => exact .refl
  | write t a m d => exact .captureNotice s a m d

/-- The head request goes to the memory side with its tag (R30, R31). -/
theorem Sound.forwarded {r : ClientRequest} {rest : List ClientRequest} (hq : s.cp.queue = r :: rest) (hc : 0 < s.mp.credits) :
    Sound s (s.forwarded r) := by
  have hqueue : (s.forwarded r).cp.queue = rest := by
    change s.cp.queue.tail = rest
    rw [hq]
    rfl
  refine .of_ports rfl rfl rfl rfl (fun hb => ?_) (fun ⟨h1, h2, h3⟩ => ⟨?_, ?_, ?_⟩) (fun hl => ?_) And.left
  · by_cases hp : s.phase = .running
    · have hphase : (s.forwarded r).phase = .running := hp
      have hcredits : (s.forwarded r).cp.credits = s.cp.credits + 1 := rfl
      simp only [ClientCreditsBalance, hp, hphase, if_true, hq, hqueue, hcredits, List.length_cons] at hb ⊢
      omega
    · simp only [ClientCreditsBalance, hp, if_false, hq] at hb
      exact nomatch hb.2
  · simp only [State.forwarded, State.grantRecord_eq, State.setOut_mp, State.setMp_mp, List.length_append,
      List.length_singleton]
    have hfree : (s.setCp { s.cp with queue := s.cp.queue.tail }).returnCredit.mp = s.mp := rfl
    rw [hfree]
    omega
  · rw [State.tagsInUse, hqueue]
    change (rest.map ClientRequest.tagNo ++ (s.mp.table ++ [_]).map MemRecord.tag).Nodup
    rw [State.tagsInUse, hq] at h2
    rw [List.map_append, ← List.append_assoc]
    exact List.nodup_append_comm.1 h2
  · intro x hx
    rcases List.mem_append.1 hx with hx | hx
    · exact h3 x hx
    · rw [List.mem_singleton.1 hx]
      simp [MemRecord.tagged, ClientRequest.tagNo_lt]
  · rw [hqueue]
    rw [hq] at hl
    exact Nat.le_of_succ_le hl

/-- The grant of the head request (R31): the claims, the head behind it judged, and its request alone to the memory side. -/
theorem Sound.grantClient {r : ClientRequest} {rest : List ClientRequest} (hq : s.cp.queue = r :: rest)
    (hc : 0 < s.mp.credits) : Sound s (s.grantClient r) ∧ HeadJudged (s.grantClient r) ∧
      (s.grantClient r).out.filter Output.isRequest =
        s.out.filter Output.isRequest ++ [.memRequest r.tagNo r.toMemory] := by
  have hnotice : Guarded (s.forwarded r) ((s.forwarded r).noticeGrant r) := (Orderly.noticeGrant _ r).guarded
  obtain ⟨h1, h2⟩ := Sound.judgeHead ((s.forwarded r).noticeGrant r)
  rw [s.grantClient_eq]
  refine ⟨.after h1 (.after hnotice.toSound (.forwarded s hq hc)), State.judgeHead_judged _, ?_⟩
  rw [h2, hnotice.requests]
  simp [State.forwarded, State.grantRecord_eq, State.returnCredit_eq, Output.isRequest]

/-- The grant of an own request (R32): the claims, the head as it was judged, and one request under the tag given. -/
theorem Sound.grantOwn {t : Nat} {o : OwnOffer} (h : s.ownReady = some (t, o)) (hc : 0 < s.mp.credits) :
    Sound s (s.grantOwn t o) ∧ (HeadJudged s → HeadJudged (s.grantOwn t o)) ∧
      ∃ q, (s.grantOwn t o).out.filter Output.isRequest = s.out.filter Output.isRequest ++ [.memRequest t q] := by
  obtain ⟨r, q, rfl, ht, ho⟩ := s.grantOwn_record (C := True) h
  have hg := ho.guarded
  refine ⟨.after hg.toSound (.grantRecord_own s q hc (s.ownReady_some h).1 ht), hg.judged, q, ?_⟩
  rw [hg.requests]
  simp [State.grantRecord_eq, Output.isRequest]

/-- One arbitration keeps the claims, and sends the head request of the client or a request under an own tag, if any (R36). -/
theorem Sound.arbitrate : Sound s s.arbitrate ∧ (HeadJudged s → HeadJudged s.arbitrate) ∧
    (s.arbitrate.out.filter Output.isRequest = s.out.filter Output.isRequest ∨
      ∃ tag q, s.arbitrate.out.filter Output.isRequest = s.out.filter Output.isRequest ++ [.memRequest tag q] ∧
        (64 ≤ tag ∨ ∃ r rest, s.cp.queue = r :: rest ∧ q = r.toMemory)) := by
  obtain h | ⟨k, hk, hc, ⟨t, o, ho, h⟩ | ⟨r, rest, hq, -, h⟩⟩ := s.arbitrate_cases
  · rw [h]
    exact ⟨Guarded.refl.toSound, id, .inl rfl⟩
  · have hset := Guarded.setK s k hk
    obtain ⟨h1, h2, q, h3⟩ := Sound.grantOwn (s.setMp { s.mp with k := k }) ho hc
    rw [h]
    refine ⟨.after h1 hset.toSound, fun hj => h2 (hset.judged hj), .inr ⟨t, q, h3, .inl ?_⟩⟩
    exact (s.freeOwnTag_some (s.ownReady_some ho).1).1
  · have hset := Guarded.setK s k hk
    obtain ⟨h1, h2, h3⟩ := Sound.grantClient (s.setMp { s.mp with k := k }) hq hc
    rw [h]
    exact ⟨.after h1 hset.toSound, fun _ => h2, .inr ⟨_, _, h3, .inr ⟨r, rest, hq, rfl⟩⟩⟩

end Ports

end Sys2Proof.Machine

namespace Sys2Proof.Machine

open Sys2Proof

variable (s : State)

/-! ### Commands that set parameters, fences and the session -/

/-- A part outside a session judges nothing (R28). -/
theorem headJudged_of_idle (h : s.sc.state = .idle) : HeadJudged s := by
  simp [HeadJudged, State.headRefused, State.fencing, State.receiving, State.targetIn, h]

/-- In IDLE hold and every timer stand still, whatever the role (R26, R92, R106, R129, R165). -/
theorem clocksFollowState_idle (h : s.sc.state = .idle) : ClocksFollowState s ↔
    s.cp.hold = false ∧ s.sc.holdTimer.running = false ∧ s.sc.handshake.running = false ∧ s.sr.silent.running = false ∧
    s.st.keepalive.running = false ∧ s.sc.awaitingReady = false ∧ s.sc.releasePending = false := by
  simp [clocksFollowState_iff, State.sending_eq, State.receiving_eq, h]

theorem clamp_share (n : Nat) : ShareInRange (clamp 1 Config.maxShare n) := by
  unfold ShareInRange clamp Config.maxShare
  omega

theorem paramsOf_share {ps : List Byte} {role : Role} {p : Params} (h : paramsOf ps = some (role, p)) :
    ShareInRange p.share := by
  unfold paramsOf at h
  split at h
  · cases h
    exact clamp_share _
  · cases h

/-- SET_SESSION replaces the parameters and the share in use, and may remove the map (R4, R181). -/
theorem State.replaceParams_eq (role : Role) (p : Params) : ∃ g : Gm, g.localFences = s.gm.localFences ∧
    s.replaceParams role p =
      ((s.setGm g).setCvu (s.cvu.forRole role p.share)).setSc { s.sc with role := role, params := p } := by
  unfold State.replaceParams
  split
  · exact ⟨s.gm.removeMap, rfl, rfl⟩
  · exact ⟨s.gm, rfl, rfl⟩

theorem Guarded.replaceParams (role : Role) (p : Params) (hs : s.sc.state = .idle) (hp : ShareInRange p.share) :
    Guarded s (s.replaceParams role p) := by
  obtain ⟨g, -, h⟩ := s.replaceParams_eq role p
  rw [h]
  exact {
    balance := id
    table := id
    shares := fun ⟨h1, _⟩ => ⟨h1, (s.cvu.forRole_share role p.share).symm ▸ hp.1,
      (s.cvu.forRole_share role p.share).symm ▸ hp.2, hp.1, hp.2⟩
    lists := id
    mrl := id
    clocks := fun hc => by
      refine (clocksFollowState_idle _ ?_).2 ((clocksFollowState_idle s hs).1 hc)
      exact hs
    fits := fun _ => by simp [StateFitsRole, hs]
    synced := id
    clear := fun _ ht => by
      have ht : role = .target := ht
      subst ht
      rfl
    judged := fun _ => headJudged_of_idle _ hs
    requests := rfl }

theorem Guarded.setShare (n : Nat) (hn : ShareInRange n) : Guarded s (s.setShare n) where
  balance := id
  table := id
  shares h := ⟨h.1, hn.1, hn.2, hn.1, hn.2⟩
  lists := id
  mrl := id
  clocks := id
  fits := id
  synced := id
  clear h ht := by
    have hcvu := h ht
    change ({ s.cvu with share := n } : Cvu) = _
    rw [hcvu]
    rfl
  judged := id
  requests := rfl

/-- The fences change in IDLE, where CP judges nothing (R12, R28). -/
theorem Guarded.setGm_idle (x : Gm) (hs : s.sc.state = .idle) : Guarded s (s.setGm x) where
  balance := id
  table := id
  shares := id
  lists := id
  mrl := id
  clocks := id
  fits := id
  synced := id
  clear := id
  judged _ := headJudged_of_idle _ hs
  requests := rfl

/-- LISTEN, up to the judging of the head (R132). -/
theorem Sound.listenOpened (hr : s.sc.role = .target) (hs : s.sc.state = .idle) : Sound s s.listenOpened where
  balance := id
  table := id
  shares h := ⟨h.1, h.2.2.2.1, h.2.2.2.2, h.2.2.2⟩
  lists := fun ⟨h1, h2, h3, h4, h5, _, hrest⟩ => ⟨h1, h2, h3, h4, h5, Nat.zero_le _, hrest⟩
  mrl := id
  clocks h := by
    have hl : s.listenOpened.sc.state = .listen := rfl
    rw [clocksFollowState_idle s hs] at h
    simp only [clocksFollowState_iff, State.sending_eq, State.receiving_eq, hl]
    simpa [State.listenOpened] using h
  fits _ := by simp [StateFitsRole, State.listenOpened, hr]
  synced _ := nofun
  clear h ht := by
    have hcvu := h ht
    change ({ s.cvu with share := s.sc.params.share } : Cvu) = _
    rw [hcvu]
    rfl

theorem Guarded.beginListen (hr : s.sc.role = .target) (hs : s.sc.state = .idle) : Guarded s s.beginListen := by
  obtain ⟨h1, h2⟩ := Sound.judgeHead s.listenOpened
  exact ⟨.after h1 (.listenOpened s hr hs), fun _ => s.listenOpened.judgeHead_judged, h2⟩

/-! ### Resets -/

/-- A COMMAND reset keeps the ports and the parameters, and returns the rest to its first values (R192). -/
theorem Guarded.commandReset : Guarded s s.commandReset where
  balance := id
  table h := by
    rw [requestTableSound_iff] at h ⊢
    have hrecords : s.commandReset.portView.records = s.portView.records := by
      change s.dropOwn.mp.table.map (fun r => (r.tag, r.tagged)) = _
      rw [s.dropOwn_eq]
      exact droppedTable_records s
    rw [hrecords]
    exact h
  shares h := ⟨Nat.zero_le _, h.2.2.2.1, h.2.2.2.2, h.2.2.2⟩
  lists h := ⟨h.1, Nat.zero_le _, Nat.zero_le _, fun hn => absurd rfl hn, Nat.zero_le _, Nat.zero_le _, Nat.zero_le _,
    Nat.zero_le _, Nat.zero_le _⟩
  mrl _ i h := absurd h (Nat.not_lt_zero i)
  clocks _ := (clocksFollowState_idle _ rfl).2 ⟨rfl, rfl, rfl, rfl, rfl, rfl, rfl⟩
  fits _ := by simp [StateFitsRole, State.commandReset, Sc.commandReset, Sc.initial]
  synced _ := nofun
  clear _ _ := rfl
  judged _ := headJudged_of_idle _ rfl
  requests := rfl

/-- A part that has just been put into a reset: nothing in the queues, no credit with the client, every unit at its first values
(R190, R191). -/
theorem Guarded.of_reset {t : State} (hp : t.phase ≠ .running) (hc : t.cp = ⟨[], false, 0⟩) (hm : t.mp = State.reset.mp)
    (hst : t.st = .initial) (hsr : t.sr = .initial) (hsc : t.sc = .initial) (hcvu : t.cvu = .initial) (ho : t.out = [])
    (hs : s.out = []) : Guarded s t where
  balance _ := by simp [ClientCreditsBalance, hp, hc]
  table _ := by simp [RequestTableSound, State.tagsInUse, hc, hm, State.reset, Config.memoryCredits]
  shares _ := by simp [SharesInRange, hm, hsc, hcvu, State.reset, Sc.initial, Params.defaults, Cvu.initial]
  lists _ := by simp [ListsInBounds, hc, hst, hsr, St.initial, Sr.initial]
  mrl _ i h := by simp [hst, St.initial] at h
  clocks _ := by
    have hi : t.sc.state = .idle := by rw [hsc]; rfl
    simp [clocksFollowState_idle t hi, hc, hst, hsr, hsc, St.initial, Sr.initial, Sc.initial, Timer.stopped]
  fits _ := by simp [StateFitsRole, hsc, Sc.initial]
  synced _ := by simp [SyncedAlone, hsc, Sc.initial]
  clear _ ht := by simp [hsc, Sc.initial] at ht
  judged _ := headJudged_of_idle t (by rw [hsc]; rfl)
  requests := by rw [ho, hs]

/-- The release of a reset gives the client its credits (R24, R38, R190). -/
theorem Guarded.release (straps : BitVec 3) (hp : s.phase ≠ .running) : Guarded s (s.release straps) where
  balance h := by
    simp only [ClientCreditsBalance, hp, if_false] at h
    have hphase : (s.release straps).phase = .running := rfl
    have hqueue : (s.release straps).cp.queue = s.cp.queue := rfl
    have hcredits : (s.release straps).cp.credits = 32 := rfl
    simp [ClientCreditsBalance, hphase, hqueue, hcredits, h.2]
  table := id
  shares := id
  lists := id
  mrl := id
  clocks := id
  fits := id
  synced := id
  clear := id
  judged := id
  requests := by simp [State.release, State.emit_eq, Output.isRequest]

/-! ### Commands -/

/-- An event, from the state that the last step's outputs have left. -/
theorem Guarded.event {f : State → State} {t : State} (h : event s f = .next t)
    (hf : s.phase = .running → Guarded (s.setOut []) (f (s.setOut []))) : Guarded (s.setOut []) t := by
  cases h
  exact .ite hf fun _ => .refl

theorem Guarded.event_orderly {f : State → State} {t : State} (h : Machine.event s f = .next t)
    (hf : Orderly True (s.setOut []) (f (s.setOut []))) : Guarded (s.setOut []) t := .event s h fun _ => hf.guarded

/-- What an accepted command leaves, seen from the state it is taken in. -/
def CommandResult.guarded (s : State) : CommandResult → Prop
  | .accept t _ => Guarded s t
  | .refuse _ => True

theorem CommandResult.guarded_acceptIf {c : Bool} {code : ResultCode} {t : State} (h : c = true → Guarded s t) :
    (acceptIf c code t).guarded s := by
  cases c
  · trivial
  · exact h rfl

theorem Guarded.command {guarded enable : Bool} {n : Nat} {ps : List Byte} {body : State → CommandResult} {t : State}
    (h : command guarded n enable ps body s = .next t) (hb : ∀ u : State, (body u).guarded u) : Guarded (s.setOut []) t := by
  obtain ⟨-, rfl⟩ | ⟨c, rfl⟩ | ⟨u, data, hu, rfl⟩ := command_cases s h
  · exact .refl
  · exact (Orderly.finish _ _ _ _ _).guarded
  · have hk := hb (s.setOut [])
    rw [hu] at hk
    exact .after (Orderly.finish _ _ _ _ _).guarded hk

/-- A command with one condition, that does not leave the order of the session. -/
theorem Guarded.command_if {guarded enable : Bool} {n : Nat} {ps : List Byte} {c : State → Bool} {code : ResultCode}
    {f : State → State} {t : State} (h : Machine.command guarded n enable ps (fun u => acceptIf (c u) code (f u)) s = .next t)
    (hb : ∀ u : State, c u = true → Orderly True u (f u)) : Guarded (s.setOut []) t :=
  .command s h fun u => CommandResult.guarded_acceptIf u fun hc => (hb u hc).guarded

theorem Guarded.skipCommand {name : Nat} {move : State → Cursor} {ps : List Byte} {t : State}
    (h : skipCommand name move ps s = .next t) : Guarded (s.setOut []) t := by
  refine .command s h fun u => ?_
  split
  · exact CommandResult.guarded_acceptIf u fun _ => (Orderly.skipTo u _ ‹_›).guarded
  · trivial

/-- Every command but ARBITRATION keeps the claims and sends no request to the memory side. -/
theorem Guarded.exec {c : Instr} {t : State} (h : exec c s = .next t) (hc : c ≠ .arbitration) : Guarded (s.setOut []) t := by
  have same : ∀ u : State, Guarded u u := fun u => .refl
  cases c with
  | arbitration => exact absurd rfl hc
  | clientRequestArrival r => exact .event s h (f := (·.arrive r)) fun hp => .arrive _ r hp
  | memoryResponse q => exact .event s h (f := (·.respond q)) fun _ => .respond _ q
  | visit => exact .event_orderly s h (.visit _)
  | granuleClose => exact .event_orderly s h (.closeIfDue _)
  | txqSend => exact .event_orderly s h (.transmit _)
  | returnListSend => exact .event_orderly s h (.sendReturn _)
  | keepaliveExpiry ready => exact .event_orderly s h (.keepaliveExpired _ ready)
  | silentLimitExpiry => exact .event_orderly s h (.silentExpired _)
  | handshakeExpiry => exact .event_orderly s h (.ite_of (fun hh => .handshakeLoss _ hh) fun _ => .refl)
  | holdTimerExpiry =>
    refine .event_orderly s h (.ite_of (fun hh => .holdExpired _ ?_) fun _ => .refl)
    simp only [Bool.and_eq_true] at hh
    exact hh.1
  | linkUp =>
    exact .event_orderly s h (f := fun u => u.setSc { u.sc with linkUp := true }) (.setSc _ _ rfl rfl (.of_view rfl))
  | linkDown => exact .event_orderly s h (.linkGoesDown _)
  | frameArrival bs => exact .event_orderly s h (f := (·.receive bs)) (.receive _ bs)
  | status ps => exact .command s h same
  | arm ps => exact .command s h fun u => (Orderly.setMgp u _).guarded
  | disarm ps => exact .command s h fun u => (Orderly.setMgp u _).guarded
  | setSession ps =>
    refine .command s h fun u => ?_
    split
    · rename_i hi
      split
      · exact Guarded.replaceParams u _ _ (by simpa [State.isIdle] using hi) (paramsOf_share ‹_›)
      · trivial
    · trivial
  | loadExtent ps =>
    refine .command s h fun u => ?_
    split
    · exact CommandResult.guarded_acceptIf u fun _ => (Orderly.setSe u _).guarded
    · trivial
  | planClear ps => exact .command_if s h fun u _ => .setSe u _
  | setFence flock ps =>
    refine .command s h fun u => ?_
    split
    · trivial
    · rename_i hi
      split
      · trivial
      · refine CommandResult.guarded_acceptIf u fun _ => .setGm_idle u _ ?_
        simpa [State.isIdle] using hi
  | lockFences ps =>
    refine .command s h fun u => ?_
    split
    · trivial
    · split
      · trivial
      · refine Orderly.guarded (.setGm u _ ?_)
        rfl
  | start ps =>
    refine .command_if s h fun u hi => .openSession u ?_
    simp only [Bool.and_eq_true] at hi
    exact hi.1.1
  | listen ps =>
    refine .command s h fun u => CommandResult.guarded_acceptIf u fun hi => ?_
    simp only [State.targetIn, Bool.and_eq_true, beq_iff_eq] at hi
    exact .beginListen u hi.1.1 hi.1.2
  | pause ps => exact .command_if s h fun u _ => .setSe u _
  | resume ps => exact .command_if s h fun u hp => .resumeSweep u (u.passing_of_pausable hp)
  | skipLevel ps => exact .skipCommand s h
  | skipExtent ps => exact .skipCommand s h
  | cutover ps => exact .command_if s h fun u hp => .armCutover u (u.passing_of_pausable hp)
  | detach ps =>
    refine .command_if s h fun u hd => .beginDetach u ?_
    simp only [Bool.and_eq_true] at hd
    exact hd.1
  | takeover ps =>
    refine .command_if s h fun u ht => ?_
    simp only [State.takeoverAllowed, State.targetIn, Bool.and_eq_true, Bool.or_eq_true, beq_iff_eq] at ht
    obtain ⟨-, ⟨hr, hs⟩ | ⟨-, ⟨hr, hs⟩ | ⟨hr, hs⟩⟩⟩ := ht <;> exact .beginTakeover u hr (by simp [hs])
  | abort ps => exact .command s h fun u => (Orderly.abortSession u).guarded
  | setShare ps => exact .command s h fun u => .setShare u _ (clamp_share _)
  | readCursor ps => exact .command s h same
  | readPass ps => exact .command s h same
  | readMap ps =>
    refine .command s h fun u => ?_
    split
    · exact same u
    · trivial
  | readEvent ps => exact .command s h fun u => (Orderly.setMgp u _).guarded
  | ackAlerts ps => exact .command s h fun u => (Orderly.setAu u _).guarded
  | setMask ps => exact .command s h fun u => (Orderly.setAu u _).guarded
  | clearCounters ps =>
    exact .command s h fun u => Orderly.guarded (.after (.setSr_same _ _ rfl rfl rfl) (.setMgp u _))
  | resetEnable ps => exact .command s h same
  | reset ps => exact .command s h fun u => CommandResult.guarded_acceptIf u fun _ => .commandReset u
  | unknown b ps => exact .event_orderly s h (f := (·.finish false false .unknown [])) (.finish _ _ _ _ _)
  | powerOn =>
    cases h
    exact .of_reset _ (by simp [State.powerOnReset]) rfl rfl rfl rfl rfl rfl rfl rfl
  | powerOnRelease straps =>
    cases h
    exact .ite (fun hp => .release _ straps (by simp [hp])) fun _ => .refl
  | lineReset =>
    exact .event s h fun _ => .of_reset _ (by simp [State.lineReset]) rfl rfl rfl rfl rfl rfl rfl rfl
  | lineResetRelease straps =>
    cases h
    exact .ite (fun hp => .release _ straps (by simp [hp])) fun _ => .refl

/-- No claim reads the queue of commands or what the last step put out. -/
theorem Sound.of_fresh {s t : State} {p : List Instr} {o : List Output} (h : Sound ((s.setPending p).setOut o) t) : Sound s t :=
  ⟨h.balance, h.table, h.shares, h.lists, h.mrl, h.clocks, h.fits, h.synced, h.clear⟩

/-- What a step keeps, and which requests it sends to the memory side: none, one under an own tag, or the head request of the
client (R21, R36). -/
theorem Sound.step {t : State} (h : step s = .next t) :
    Sound s t ∧ (HeadJudged s → HeadJudged t) ∧ (t.out.filter Output.isRequest = [] ∨
      ∃ tag q, t.out.filter Output.isRequest = [.memRequest tag q] ∧
        (64 ≤ tag ∨ ∃ r rest, s.cp.queue = r :: rest ∧ q = r.toMemory)) := by
  cases hp : s.pending with
  | nil =>
    simp only [Machine.step, hp] at h
    cases h
    have hg : Guarded (s.setOut []) s.tick := by
      by_cases hr : s.phase = .running
      · exact (Orderly.tick s hr).guarded
      · rw [State.tick, if_neg hr]
        exact .refl
    exact ⟨.of_fresh (p := s.pending) hg.toSound, hg.judged, .inl hg.requests⟩
  | cons c rest =>
    simp only [Machine.step, hp] at h
    by_cases hc : c = .arbitration
    · subst hc
      cases h
      split
      · obtain ⟨h1, h2, h3⟩ := Sound.arbitrate ((s.setPending rest).setOut [])
        exact ⟨.of_fresh h1, h2, h3⟩
      · exact ⟨.of_fresh (p := rest) (o := []) Guarded.refl.toSound, id, .inl rfl⟩
    · have hg := Guarded.exec _ h hc
      exact ⟨.of_fresh hg.toSound, hg.judged, .inl hg.requests⟩

end Sys2Proof.Machine

namespace Sys2Proof.Machine

open Sys2Proof

/-- Settles O52: every operation keeps the ports and the queues (`Orderly`, `Guarded`), so every step does. -/
theorem stepKeepsPorts : Obligations.StepKeepsPorts := by
  unfold Obligations.StepKeepsPorts
  intro s t h
  obtain ⟨hs, -, -⟩ := Sound.step s h
  exact ⟨hs.balance, hs.table, hs.shares, hs.lists, hs.mrl⟩

/-- Settles O54: every operation keeps the session with its hold and its timers, so every step does. -/
theorem stepKeepsSession : Obligations.StepKeepsSession := by
  unfold Obligations.StepKeepsSession
  intro s t h
  obtain ⟨hs, -, -⟩ := Sound.step s h
  exact ⟨hs.clocks, hs.fits, hs.synced, hs.clear⟩

/-- A judged head that is a write on a fenced TARGET is covered (R28). -/
theorem HeadJudged.covered {s : State} (h : HeadJudged s) (hf : s.fencing = true) {r : ClientRequest}
    {rest : List ClientRequest} (hq : s.cp.queue = r :: rest) {a : LineAddr} {m : ByteMask} {d : LineData}
    (hr : r.toMemory = .write a m d) : s.localCovers (granuleOf a.toNat) = true := by
  cases r with
  | read t x => cases hr
  | write t x y z =>
    cases hr
    simpa [HeadJudged, State.headRefused, hf, hq] using h

/-- Settles O55: the head stays judged by every step, and of the client only the head goes to the memory side. -/
theorem fencedTargetForwardsNoUncoveredWrite : Obligations.FencedTargetForwardsNoUncoveredWrite := by
  unfold Obligations.FencedTargetForwardsNoUncoveredWrite
  intro s t hj h
  obtain ⟨-, hkeep, hreq⟩ := Sound.step s h
  refine ⟨hkeep hj, fun hf tag a m d hmem htag => ?_⟩
  have hmem : .memRequest tag (.write a m d) ∈ t.out.filter Output.isRequest := List.mem_filter.2 ⟨hmem, rfl⟩
  obtain hnone | ⟨tag', q, hone, hcase⟩ := hreq
  · simp [hnone] at hmem
  · rw [hone] at hmem
    cases List.mem_singleton.1 hmem
    obtain hlow | ⟨r, rest, hq, hr⟩ := hcase
    · omega
    · exact hj.covered hf hq hr.symm

end Sys2Proof.Machine

/-! ## Client requests and memory responses -/

namespace Sys2Proof.Machine

open Sys2Proof

variable {s : State}

/-- Settles O1: the step is the front command's meaning on the state with the queue's rest. -/
theorem stepRunsFrontCommand : Obligations.StepRunsFrontCommand := fun _ _ _ => rfl

/-! ### Requests that arrive (R21 to R25) -/

/-- An arrival at a full queue (R25). -/
theorem exec_arrival_full {r : ClientRequest} (hp : s.phase = .running) (h : 32 ≤ s.cp.queue.length) :
    exec (.clientRequestArrival r) s = .next ((s.setOut []).count .protocol) :=
  (event_running s (·.arrive r) hp).trans (congrArg _ (if_pos h))

/-- An arrival under a tag in use (R23). -/
theorem exec_arrival_taken {r : ClientRequest} (hp : s.phase = .running) (h : s.cp.queue.length < 32)
    (ht : r.tagNo ∈ s.tagsInUse) : exec (.clientRequestArrival r) s = .next
      (((s.setOut []).setCp { s.cp with credits := s.cp.credits - 1 }).returnCredit.count .protocol) := by
  have ht : (s.setOut []).tagOutstanding r.tagNo = true := ((s.setOut []).tagOutstanding_iff _).2 ht
  exact (event_running s (·.arrive r) hp).trans (congrArg _ ((if_neg (Nat.not_le.2 h)).trans (if_pos ht)))

/-- Settles O4: the three outcomes of an arrival, in the order of their checks. -/
theorem clientArrival : Obligations.ClientArrival := by
  unfold Obligations.ClientArrival
  intro r s hp
  refine ⟨fun hq ht hj => ?_, fun hq => ?_, fun hq hc ht => ?_⟩
  · exact (exec_clientRequestArrival hp hq ht).trans (congrArg _ (State.judgeHead_stands _ hj))
  · rw [exec_arrival_full hp hq]
    rfl
  · have hcredits : s.cp.credits - 1 + 1 = s.cp.credits := Nat.sub_add_cancel hc
    rw [exec_arrival_taken hp hq ht]
    simp only [State.returnCredit_eq, State.setCp_cp, hcredits]
    rfl

/-! ### Responses that MP matches, and those it does not (R33 to R35) -/

theorem exec_memoryResponse (hp : s.phase = .running) (q : MemResponse) :
    exec (.memoryResponse q) s = .next ((s.setOut []).respond q) := event_running s (·.respond q) hp

/-- A matched response takes its record back and goes where the record says (R33, R34). -/
theorem exec_matched {q : MemResponse} {tag : Nat} {o : Owner} {k : RequestKind} {a : LineAddr} (hp : s.phase = .running)
    (ht : q.tagNo = tag) (hr : s.recordOf tag = some ⟨tag, o, k, a⟩) (hm : q.matches k = true) :
    exec (.memoryResponse q) s = .next (((s.setOut []).takeRecord tag).route ⟨tag, o, k, a⟩ q) := by
  subst ht
  have hr : (s.setOut []).recordOf q.tagNo = some ⟨q.tagNo, o, k, a⟩ := hr
  rw [exec_memoryResponse hp, State.respond, hr]
  simp [hm]

/-- Settles O14: a response with no record, or one of the other kind, is counted and nothing else. -/
theorem unmatchedResponse : Obligations.UnmatchedResponse := by
  unfold Obligations.UnmatchedResponse
  intro q s hp h
  rw [exec_memoryResponse hp, State.respond]
  obtain h | ⟨r, h, hm⟩ := h
  · have h : (s.setOut []).recordOf q.tagNo = none := h
    rw [h]
    rfl
  · have h : (s.setOut []).recordOf q.tagNo = some r := h
    rw [h]
    simp [hm]
    rfl

/-- A response to the client that WCU does not act on: any but DONE(FAIL), or one where WCU takes no failures (R33, R42). -/
theorem State.clientResponse_plain (r : MemRecord) (q : MemResponse)
    (h : q.toClient ≠ .doneFail ∨ s.failureActs = false) :
    s.clientResponse r q = s.emit (.clientResponse r.tag q.toClient) := by
  unfold State.clientResponse
  dsimp only
  split
  · have hacts : s.failureActs = false := h.resolve_left fun hn => hn rfl
    have hacts : (s.emit (.clientResponse r.tag .doneFail)).failureActs = false := hacts
    simp [State.failureNotice, MemResponse.toClient, hacts]
  · rfl

/-- Settles O11: the record comes back, then the delivery alone. -/
theorem clientResponseDelivered : Obligations.ClientResponseDelivered := by
  unfold Obligations.ClientResponseDelivered
  intro q k a s hp hr hm h
  exact (exec_matched hp rfl hr hm).trans (congrArg _ (State.clientResponse_plain _ _ h))

/-! ### Responses to own requests (R34, R66, R115) -/

/-- The data of a line goes into the first slot reserved for it (R66). -/
theorem fillSlot_reserved {o : Byte} {i : BitVec 10} (p : Bool) (data : LineData) (pre post : List TxEntry)
    (h : TxEntry.slot o i none ∉ pre) :
    fillSlot o i p data (pre ++ .slot o i none :: post) = pre ++ .slot o i (some (p, data)) :: post := by
  induction pre with
  | nil => simp [fillSlot]
  | cons e pre ih =>
    obtain ⟨he, hpre⟩ := not_or.1 (List.mem_cons.not.1 h)
    rw [List.cons_append, fillSlot.eq_def]
    split
    · rename_i heq
      cases heq
    · rename_i heq
      cases heq
      rw [if_neg (fun hs => he (by rw [hs.1, hs.2])), ih hpre]
      rfl
    · rename_i heq
      cases heq
      rw [ih hpre]
      rfl

/-- The open record that a line was read under counts it (R66). -/
theorem OpenRecord.lineReturned_same {r : OpenRecord} {o : Byte} {g : Nat} (poison : Bool) (ho : r.openNo = o)
    (hg : r.granule = g) : r.lineReturned o g poison =
      { r with returned := r.returned + 1, poison := if poison then r.poison + 1 else r.poison } := if_pos ⟨ho, hg⟩

/-- Another open record, or none, counts no line (R66). -/
theorem lineReturned_other {x : Option OpenRecord} {o : Byte} {g : Nat} (poison : Bool)
    (h : ∀ r, x = some r → r.openNo ≠ o ∨ r.granule ≠ g) : x.map (·.lineReturned o g poison) = x := by
  cases x with
  | none => rfl
  | some r =>
    have hne : ¬ (r.openNo = o ∧ r.granule = g) := not_and_or.2 (h r rfl)
    simp [OpenRecord.lineReturned, hne]

/-- The state after an own response whose data or status has no further effect: its record is gone and its credit back (R34). -/
def State.recordTaken (s : State) (tag : Nat) : State := { s with
  out := []
  mp := { s.mp with credits := s.mp.credits + 1, table := s.mp.table.filter fun x => x.tag != tag } }

/-- The response to a sweep read whose slot stands (R66). -/
theorem exec_lineData {tag : Nat} {a : LineAddr} {o : Byte} {i : BitVec 10} {d : LineData} {poison : Bool}
    {pre post : List TxEntry} {x : Option OpenRecord} (hp : s.phase = .running)
    (hr : s.recordOf tag = some ⟨tag, .sweep (some (o, i)), .read, a⟩) (hq : s.st.txq = pre ++ .slot o i none :: post)
    (hpre : TxEntry.slot o i none ∉ pre)
    (hx : s.se.opened.map (·.lineReturned o (a.toNat / 1024) poison) = x) :
    exec (.memoryResponse (.data tag d poison)) s = .next { s.recordTaken tag with
      st := { s.st with txq := pre ++ .slot o i (some (poison, d)) :: post }
      se := { s.se with opened := x }
      mgp := if poison then { s.mgp with
          counters := { s.mgp.counters with poisoned := min 16777215 (s.mgp.counters.poisoned + 1) }
          event := s.captured .poison (some (a.toNat / 1024)) (.lineAddr a.toNat) }
        else s.mgp } := by
  rw [exec_matched (q := .data tag d poison) hp rfl hr rfl, ← fillSlot_reserved poison d pre post hpre, ← hq, ← hx]
  cases poison <;> rfl

/-- DONE matches every write (R35). -/
theorem MemResponse.matches_done (tag : Nat) (fail : Bool) {k : RequestKind} (h : k ≠ .read) :
    (MemResponse.done tag fail).matches k = true := by
  cases k with
  | read => exact absurd rfl h
  | write => rfl
  | writePoison => rfl

/-- The response to an apply write (R115). -/
theorem exec_applyDone {tag g : Nat} {a : LineAddr} {k : RequestKind} (fail : Bool) (hp : s.phase = .running) (hk : k ≠ .read)
    (hr : s.recordOf tag = some ⟨tag, .apply g true, k, a⟩) :
    exec (.memoryResponse (.done tag fail)) s = .next ((s.recordTaken tag).applyDone g a fail) :=
  exec_matched (q := .done tag fail) hp rfl hr (MemResponse.matches_done tag fail hk)

/-- Outside FILLING and SHADOW a failed apply write is captured and nothing else (R115). -/
theorem State.applyDone_fault {g : Nat} {a : LineAddr} (h : s.targetIn .fault = true) :
    s.applyDone g a true = s.capture .writeFail (some g) (.lineAddr a.toNat) := by
  have hr : (s.capture .writeFail (some g) (.lineAddr a.toNat)).receiving = false := by
    simp only [State.targetIn, Bool.and_eq_true, beq_iff_eq] at h
    have hstate : (s.capture .writeFail (some g) (.lineAddr a.toNat)).sc.state = .fault := h.2
    simp [State.receiving_eq, hstate]
  simp only [State.applyDone, if_true, hr, Bool.false_eq_true, if_false]

/-! ### Claims that wait (R117) -/

/-- Nothing is claimed where no TAKEN, no failed apply, no answer and no CREDIT waits. -/
theorem State.placeable_none (ht : s.sc.takenWaiting = false) (hf : s.sr.failedApply = []) (hh : s.sr.head = none)
    (hc : s.sr.creditDue = false) : s.placeable = none := by
  have h : s.firstClaim = none := by simp [State.firstClaim, ht, hf, hh, hc]
  simp [State.placeable, h]

theorem State.placeable_full (h : 16 ≤ s.st.returnList.length) : s.placeable = none := if_neg (Nat.not_lt.2 h)

/-- With an empty buffer there is no frame to process. -/
theorem State.unprocessed_none (h : s.sr.buffer = []) : s.unprocessed = none := by
  unfold State.unprocessed
  split
  · rw [h]
    split
    · rename_i heq
      cases heq
    · rfl
  · rfl

/-- One claim takes its place, and nothing waits behind it. -/
theorem State.pump_one {c : Claim} (hc : s.placeable = some c) (h1 : (s.appendClaim c).placeable = none)
    (h2 : (s.appendClaim c).unprocessed = none) : s.pump = s.appendClaim c := by
  have hstep : s.pump = State.pumpFor (Config.returnPlaces + s.sr.buffer.length) (s.appendClaim c) := by
    rw [State.pump, State.pumpFor, hc]
  rw [hstep, State.pumpFor_settled _ _ h1 h2]

/-- A failed apply write on a receiving TARGET, up to the claims: WRITE_FAIL, then the NEED is captured and the clean flag cleared,
and the granule waits for its place (R115, R119, R121). -/
def State.applyFailed (s : State) (g : Nat) : State := { s with
  sr := { s.sr with clean := false, failedApply := s.sr.failedApply ++ [g] }
  sc := { s.sc with
    state := .filling
    unsynced := s.sc.unsynced || (s.sc.state == .shadow && s.sc.takeoverPending) }
  mgp := { s.mgp with event := ⟨.need, some g, .absent, s.eventPass, true, true⟩ } }

theorem State.applyDone_fails {g : Nat} {a : LineAddr} (hr : s.receiving = true) :
    s.applyDone g a true = (s.applyFailed g).pump := by
  let captured := (s.capture .writeFail (some g) (.lineAddr a.toNat)).capture .need (some g) .absent
  have hclean := captured.clearClean_receiving hr
  have hr' : (s.capture .writeFail (some g) (.lineAddr a.toNat)).receiving = true := hr
  have hevent : captured.mgp = { s.mgp with event := ⟨.need, some g, .absent, s.eventPass, true, true⟩ } := by
    simp only [captured, State.capture_eq, State.setMgp_mgp, Bool.or_true]
    rfl
  simp only [State.applyDone, State.decideNeed, hr', if_true]
  rw [hclean, State.applyFailed, ← hevent]
  rfl

/-- With a place in the return list and no other claim the NEED is appended at once (R115, R117). -/
theorem State.applyFailed_pump {g : Nat} (hr : s.receiving = true) (hl : s.st.returnList.length < 16)
    (hf : s.sr.failedApply = []) (ht : s.sc.takenWaiting = false) (hc : s.sr.creditDue = false) (hb : s.sr.buffer = [])
    (hh : s.sr.head = none) : (s.applyFailed g).pump = { s.applyFailed g with
      st := { s.st with returnList := s.st.returnList ++ [.need (BitVec.ofNat 24 g)] }
      sr := { s.sr with clean := false }
      mgp := { (s.applyFailed g).mgp with
        counters := { s.mgp.counters with needs := min 16777215 (s.mgp.counters.needs + 1) } } } := by
  have hrole : (s.applyFailed g).sc.role = .target := s.receiving_role hr
  have hstate : (s.applyFailed g).sc.state = .filling := rfl
  have htaken : (s.applyFailed g).sc.takenWaiting = false := ht
  have hlist : (s.applyFailed g).sr.failedApply = [g] := by simp [State.applyFailed, hf]
  have hroom : (s.applyFailed g).st.returnList.length < Config.returnPlaces := hl
  have hclaim : (s.applyFailed g).placeable = some (.failed g) := by
    simp [State.placeable, State.firstClaim, State.receiving, State.targetIn, hrole, hstate, htaken, hlist, hroom]
  have htail : (s.sr.failedApply ++ [g]).tail = s.sr.failedApply := by simp [hf]
  have hplaced : (s.applyFailed g).appendClaim (.failed g) = { s.applyFailed g with
      st := { s.st with returnList := s.st.returnList ++ [.need (BitVec.ofNat 24 g)] }
      sr := { s.sr with clean := false, failedApply := (s.sr.failedApply ++ [g]).tail }
      mgp := { (s.applyFailed g).mgp with
        counters := { s.mgp.counters with needs := min 16777215 (s.mgp.counters.needs + 1) } } } := rfl
  rw [htail] at hplaced
  rw [State.pump_one hclaim, hplaced]
  · rw [hplaced]
    exact State.placeable_none ht hf hh hc
  · rw [hplaced]
    exact State.unprocessed_none hb

/-- Settles O13: the record comes back in every case, then by the owner and the kind of the response. -/
theorem ownResponseTaken : Obligations.OwnResponseTaken := by
  unfold Obligations.OwnResponseTaken
  intro tag a s hp
  refine ⟨fun o i d poison pre post r hr hq hpre ho hno hg => ?_, fun o i d poison pre post hr hq hpre ho => ?_,
    fun g k hk hr => ?_, fun g k hrec hk hr hl hf ht hc hb hh => ?_, fun d poison hr => ?_, fun g k fail hk hr => ?_,
    fun g k hf hk hr => ?_⟩
  · refine exec_lineData hp hr hq hpre ?_
    rw [ho, Option.map_some, OpenRecord.lineReturned_same poison hno hg]
  · exact exec_lineData hp hr hq hpre (lineReturned_other poison ho)
  · exact exec_applyDone false hp hk hr
  · have hrec : (s.recordTaken tag).receiving = true := hrec
    rw [exec_applyDone true hp hk hr, State.applyDone_fails hrec, State.applyFailed_pump hrec hl hf ht hc hb hh]
    rfl
  · exact exec_matched (q := .data tag d poison) hp rfl hr rfl
  · exact exec_matched (q := .done tag fail) hp rfl hr (MemResponse.matches_done tag fail hk)
  · have hf : (s.recordTaken tag).targetIn .fault = true := hf
    rw [exec_applyDone true hp hk hr, State.applyDone_fault hf]
    rfl


/-! ### Failed client writes (R33, R51) -/

/-- The state in which WCU takes a failed write: its record is gone and the failure delivered (R22, R33). -/
def State.failureDelivered (s : State) (tag : Nat) : State := { s.recordTaken tag with out := [.clientResponse tag .doneFail] }

/-- A failed client write where WCU acts: the granule takes the MARK-DIRTY, then WRITE_FAIL is captured (R51). -/
theorem exec_clientFail {tag : Nat} {a : LineAddr} (hp : s.phase = .running)
    (hr : s.recordOf tag = some ⟨tag, .client, .write, a⟩) (hf : s.failureActs = true) :
    exec (.memoryResponse (.done tag true)) s = .next (((s.failureDelivered tag).markDirty (a.toNat / 1024)).capture .writeFail
      (some (a.toNat / 1024)) (.lineAddr a.toNat)) := by
  have hf : (s.failureDelivered tag).failureActs = true := hf
  exact (exec_matched (q := .done tag true) hp rfl hr rfl).trans (congrArg _ (if_pos hf))

/-- An entry of the image that is not EXCLUDED, open: the MARK-DIRTY makes the open record stale (R7, R68). -/
theorem State.markDirty_opened {g : Nat} (he : s.entry g ≠ none) (hx : s.entry g ≠ some .excluded) (ho : s.isOpen g = true) :
    s.markDirty g = s.markStale := by
  have h : s.markOutcome g = .stale := by
    unfold State.markOutcome
    split
    · exact absurd ‹_› he
    · exact absurd ‹_› hx
    · exact if_pos ho
  simp [State.markDirty, h]

/-- A MARK-DIRTY with no effect: outside the map, EXCLUDED, or neither COPIED nor open (R7). -/
theorem State.markDirty_rests {g : Nat} (h : s.entry g = none ∨ s.entry g = some .excluded ∨
    (s.entry g ≠ some .copied ∧ s.isOpen g = false)) : s.markDirty g = s := by
  obtain ⟨hd, -⟩ | ⟨hs, -⟩ | ⟨-, -, hk⟩ := s.markDirty_cases g
  · obtain ⟨hc, -⟩ := s.markOutcome_dirtied hd
    simp [hc] at h
  · obtain ⟨ho, hn, hx⟩ := s.markOutcome_stale hs
    simp [ho, hn, hx] at h
  · exact hk

/-- Settles O12: by the answer to the MARK-DIRTY, and for a granule dirtied by what the transition sets going. -/
theorem failedClientWrite : Obligations.FailedClientWrite := by
  unfold Obligations.FailedClientWrite
  intro tag a s hp hr hf
  have hrun := exec_clientFail hp hr hf
  have hrole : s.sc.role = .source := by
    simp only [State.failureActs, Bool.and_eq_true] at hf
    exact (s.transmitting_session hf.1).1
  let v := s.failureDelivered tag
  have hshadow : v.sourceIn .shadow = decide (s.sc.state = .shadow) := by
    have hv : v.sc = s.sc := rfl
    simp [State.sourceIn, hv, hrole, beq_eq_decide]
  refine ⟨fun he ho => ?_, fun he hx ho => ?_, fun h => ?_⟩
  · have hmark : v.markDirty (a.toNat / 1024) = v.dirty (a.toNat / 1024) := (State.markDirty_copied v he ho).2
    rw [hmark] at hrun
    refine ⟨fun hs hw => ?_, fun hs hd hw hpa => ?_, fun hs hq hm => ?_⟩
    · rw [hrun, v.dirty_rests _ (by simp [hshadow, hs]) hw]
      rfl
    · rw [hrun, v.dirty_wakes _ (by simp [hshadow, hs]) hd hw hpa]
      rfl
    · rw [hrun, v.dirty_shadow _ (by simp [hshadow, hs]) hq hm]
      rfl
  · rw [hrun, State.markDirty_opened (s := v) he hx ho]
    rfl
  · rw [hrun, State.markDirty_rests (s := v) h]
    rfl

end Sys2Proof.Machine

/-! ## Arbitration -/

namespace Sys2Proof.Machine

open Sys2Proof

variable {s : State}

/-! ### What is granted (R36) -/

theorem exec_arbitration (hp : s.phase = .running) : exec .arbitration s = .next (s.setOut []).arbitrate :=
  event_running s State.arbitrate hp

/-- With no class ready nothing is granted. -/
theorem State.arbitrate_idle (hc : s.clientReady = false) (ho : s.ownReady = none) : s.arbitrate = s := by
  obtain h | ⟨k, -, -, ⟨t, o, hown, -⟩ | ⟨r, rest, -, hready, -⟩⟩ := s.arbitrate_cases
  · exact h
  · rw [ho] at hown
    cases hown
  · rw [hc] at hready
    cases hready

/-- With the OWN class alone ready its request is granted and K stands. -/
theorem State.arbitrate_own {t : Nat} {o : OwnOffer} (hm : 0 < s.mp.credits) (hc : s.clientReady = false)
    (ho : s.ownReady = some (t, o)) : s.arbitrate = s.grantOwn t o := by
  rw [State.arbitrate, if_neg (Nat.ne_of_gt hm), ho]
  split
  · rename_i h
    cases h
    simp [hc]
  · rename_i h
    cases h
  · rename_i h
    cases h
    rfl
  · rename_i h
    cases h

/-- With the CLIENT class alone ready its head request is granted and K stands. -/
theorem State.arbitrate_client {r : ClientRequest} {rest : List ClientRequest} (hm : 0 < s.mp.credits)
    (hq : s.cp.queue = r :: rest) (hc : s.clientReady = true) (ho : s.ownReady = none) : s.arbitrate = s.grantClient r := by
  rw [State.arbitrate, if_neg (Nat.ne_of_gt hm), ho, hq]
  exact if_pos hc

/-- With both ready K takes its step, and chooses (R36, R37). -/
theorem State.arbitrate_contested {r : ClientRequest} {rest : List ClientRequest} {t : Nat} {o : OwnOffer}
    (hm : 0 < s.mp.credits) (hq : s.cp.queue = r :: rest) (hc : s.clientReady = true) (ho : s.ownReady = some (t, o)) :
    s.arbitrate =
      let u := s.setMp { s.mp with k := (arbiterStep s.mp.k s.cvu.share).1 }
      if (arbiterStep s.mp.k s.cvu.share).2 then u.grantOwn t o else u.grantClient r := by
  rw [State.arbitrate, if_neg (Nat.ne_of_gt hm), ho, hq]
  exact if_pos hc

/-- The grant of an own request spends one credit on one record under its tag, and leaves CP and K (R32). -/
theorem State.grantOwn_ports {t : Nat} {o : OwnOffer} (h : s.ownReady = some (t, o)) :
    (s.grantOwn t o).cp.queue = s.cp.queue ∧ (s.grantOwn t o).cp.credits = s.cp.credits ∧ (s.grantOwn t o).mp.k = s.mp.k ∧
    (s.grantOwn t o).mp.credits = s.mp.credits - 1 ∧
    (s.grantOwn t o).mp.table.map MemRecord.tag = s.mp.table.map MemRecord.tag ++ [t] := by
  obtain ⟨r, q, rfl, -, ho⟩ := s.grantOwn_record (C := True) h
  have hp := ho.ports
  have htags := congrArg (fun v => v.records.map Prod.fst) hp
  simp only [State.portView, List.map_map, Function.comp_def] at htags
  exact ⟨congrArg PortView.queue hp, congrArg PortView.credits hp, congrArg PortView.k hp, congrArg PortView.free hp,
    htags.trans (by simp [State.grantRecord_eq])⟩

/-- The grant of the head request spends one credit on one record under its tag, and leaves K (R31). -/
theorem State.grantClient_ports (r : ClientRequest) : (s.grantClient r).mp.k = s.mp.k ∧
    (s.grantClient r).mp.credits = s.mp.credits - 1 ∧
    (s.grantClient r).mp.table.map MemRecord.tag = s.mp.table.map MemRecord.tag ++ [r.tagNo] := by
  have hjudge : (s.grantClient r).mp = ((s.forwarded r).noticeGrant r).mp := (State.judgeFor_frame _ _).2.1
  have hp := (Orderly.noticeGrant (C := True) (s.forwarded r) r).ports
  have htags := congrArg (fun v => v.records.map Prod.fst) hp
  simp only [State.portView, List.map_map, Function.comp_def] at htags
  rw [hjudge]
  exact ⟨congrArg PortView.k hp, congrArg PortView.free hp,
    htags.trans (by simp [State.forwarded, State.grantRecord_eq, State.returnCredit_eq])⟩

/-- Settles O10: K's step by `arbiterStep`, the record it leads to by the grant chosen, and the sixteen steps at each share. -/
theorem shareArbiterChooses : Obligations.ShareArbiterChooses := by
  unfold Obligations.ShareArbiterChooses
  refine ⟨fun r rest t o s hp hq hc ho => ⟨fun hm => ?_, fun hm => ⟨_, exec_arbitration hp, ?_⟩⟩, fun share h1 h2 => ?_⟩
  · exact (exec_arbitration hp).trans (congrArg _ (State.arbitrate_none _ hm))
  · let u := (s.setOut []).setMp { s.mp with k := (arbiterStep s.mp.k s.cvu.share).1 }
    have hown : u.ownReady = some (t, o) := ho
    have hrun : (s.setOut []).arbitrate = if (arbiterStep s.mp.k s.cvu.share).2 then u.grantOwn t o else u.grantClient r :=
      State.arbitrate_contested (s := s.setOut []) hm hq hc ho
    obtain ⟨-, -, k1, c1, t1⟩ := State.grantOwn_ports hown
    obtain ⟨k2, c2, t2⟩ := u.grantClient_ports r
    rw [hrun]
    by_cases hk : 16 ≤ s.mp.k + s.cvu.share
    · have hstep : arbiterStep s.mp.k s.cvu.share = (s.mp.k + s.cvu.share - 16, true) := if_pos hk
      simp only [hstep, if_true, if_pos hk]
      exact ⟨c1, k1.trans (by simp [u, hstep]), t1⟩
    · have hstep : arbiterStep s.mp.k s.cvu.share = (s.mp.k + s.cvu.share, false) := if_neg hk
      simp only [hstep, Bool.false_eq_true, if_false, if_neg hk]
      exact ⟨c2, k2.trans (by simp [u, hstep]), t2⟩
  · interval_cases share <;> rfl

/-! ### The client's head request, and what holds it back (R26, R27, R31) -/

/-- A request that WCU does not act on: a READ, or a WRITE where WCU takes no captures (R42). -/
theorem State.noticeGrant_plain {r : ClientRequest} (h : r.kind = .read ∨ s.captureActs = false) : s.noticeGrant r = s := by
  cases r with
  | read t a => rfl
  | write t a m d =>
    have hacts : s.captureActs = false := h.resolve_left nofun
    simp [State.noticeGrant, State.captureNotice, hacts]

theorem State.forwarded_eq {r : ClientRequest} {rest : List ClientRequest} (hq : s.cp.queue = r :: rest) :
    (s.setOut []).forwarded r = s.clientGranted r rest := by
  simp only [State.forwarded, State.setOut_cp, hq, List.tail_cons]
  rfl

/-- The CLIENT class is ready with a head that neither hold nor shadow stall keeps back (R25, R26, R27). -/
theorem State.clientReady_iff : s.clientReady = true ↔ s.cp.queue ≠ [] ∧ s.cp.hold = false ∧ s.shadowStall = false := by
  simp [State.clientReady, and_assoc]

/-- Shadow stall keeps back a head write to a granule in the image and not EXCLUDED, while the TXQ or the MRL is full (R27, R50). -/
theorem State.shadowStall_iff : s.shadowStall = true ↔ s.sc.role = .source ∧ s.sc.state = .shadow ∧
    s.sc.params.stall = true ∧
    (∃ tag a m d rest x, s.cp.queue = .write tag a m d :: rest ∧ s.entry (a.toNat / 1024) = some x ∧ x ≠ .excluded) ∧
    (64 ≤ s.st.txq.length ∨ 128 ≤ s.st.mrl.length) := by
  cases hq : s.cp.queue with
  | nil => simp [State.shadowStall, hq]
  | cons r rest =>
    cases r with
    | read t a => simp [State.shadowStall, hq]
    | write t a m d =>
      have hentry : ((s.entry (granuleOf a.toNat)).isSome = true ∧ s.entry (granuleOf a.toNat) ≠ some .excluded) ↔
          ∃ x, s.entry (a.toNat / 1024) = some x ∧ x ≠ .excluded := by
        cases h : s.entry (granuleOf a.toNat) with
        | none => simp [show s.entry (a.toNat / 1024) = none from h]
        | some x => simp [show s.entry (a.toNat / 1024) = some x from h]
      simp only [State.shadowStall, hq, State.sourceIn, Bool.and_eq_true, beq_iff_eq, bne_iff_ne, hentry, Bool.or_eq_true,
        decide_eq_true_eq]
      constructor
      · rintro ⟨⟨⟨hr, hs⟩, hst⟩, ⟨x, hx⟩, hfull⟩
        exact ⟨hr, hs, hst, ⟨t, a, m, d, rest, x, rfl, hx⟩, hfull⟩
      · rintro ⟨hr, hs, hst, ⟨t, a, m, d, rest, x, hqueue, hx⟩, hfull⟩
        cases hqueue
        exact ⟨⟨⟨hr, hs⟩, hst⟩, ⟨x, hx⟩, hfull⟩

/-- While the head is held back the client's queue, its credits and K stand, and at most a request under an own tag is sent. -/
theorem State.arbitrate_held (hc : s.clientReady = false) : s.arbitrate.cp.queue = s.cp.queue ∧
    s.arbitrate.cp.credits = s.cp.credits ∧ s.arbitrate.mp.k = s.mp.k ∧
    ∀ tag q, .memRequest tag q ∈ s.arbitrate.out → .memRequest tag q ∈ s.out ∨ 64 ≤ tag := by
  by_cases hidle : s.mp.credits = 0 ∨ s.ownReady = none
  · have h : s.arbitrate = s := hidle.elim s.arbitrate_none (State.arbitrate_idle hc)
    rw [h]
    exact ⟨rfl, rfl, rfl, fun _ _ => .inl⟩
  · obtain ⟨hm, hne⟩ := not_or.1 hidle
    have hm : 0 < s.mp.credits := Nat.pos_of_ne_zero hm
    obtain ⟨⟨t, o⟩, ho⟩ := Option.ne_none_iff_exists'.1 hne
    obtain ⟨hqueue, hcredits, hk, -, -⟩ := State.grantOwn_ports ho
    obtain ⟨-, -, q, hreq⟩ := Sound.grantOwn s ho hm
    rw [State.arbitrate_own hm hc ho]
    refine ⟨hqueue, hcredits, hk, fun tag q' hmem => ?_⟩
    have hmem : .memRequest tag q' ∈ (s.grantOwn t o).out.filter Output.isRequest := List.mem_filter.2 ⟨hmem, rfl⟩
    rw [hreq] at hmem
    rcases List.mem_append.1 hmem with hmem | hmem
    · exact .inl (List.mem_filter.1 hmem).1
    · cases List.mem_singleton.1 hmem
      exact .inr (s.freeOwnTag_some (s.ownReady_some ho).1).1

/-- Settles O6: the grant by its parts, the stall by its conditions, and under either of them no client request to the memory
side. -/
theorem clientGrant : Obligations.ClientGrant := by
  unfold Obligations.ClientGrant
  refine ⟨fun r rest s hp hm hq hh hs ho hw hj => ?_, fun s => ⟨State.shadowStall_iff, fun hp hheld => ?_⟩⟩
  · have hready : (s.setOut []).clientReady = true := State.clientReady_iff.2 ⟨by simp [hq], hh, hs⟩
    have hnotice : (s.clientGranted r rest).noticeGrant r = s.clientGranted r rest := State.noticeGrant_plain hw
    have hstands : (s.clientGranted r rest).judgeHead = s.clientGranted r rest := State.judgeHead_stands _ hj
    have hgrant := State.arbitrate_client (s := s.setOut []) hm hq hready ho
    rw [State.grantClient_eq, State.forwarded_eq hq, hnotice, hstands] at hgrant
    exact (exec_arbitration hp).trans (congrArg _ hgrant)
  · have hready : (s.setOut []).clientReady = false := by
      refine eq_false_of_ne_true fun h => ?_
      obtain ⟨-, hh, hs⟩ := State.clientReady_iff.1 h
      exact hheld.elim (by simpa using hh) (ne_true_of_eq_false hs)
    obtain ⟨hqueue, hcredits, hk, hreq⟩ := State.arbitrate_held hready
    refine ⟨fun ho => (exec_arbitration hp).trans (congrArg _ (State.arbitrate_idle hready ho)), _, exec_arbitration hp,
      hqueue, hcredits, hk, fun tag q hmem => ?_⟩
    exact (hreq tag q hmem).resolve_left List.not_mem_nil

end Sys2Proof.Machine

namespace Sys2Proof.Machine

open Sys2Proof

variable {s : State}

/-! ### The grant of an apply write (R32, R114, R116) -/

/-- An apply write is on offer on a TARGET that takes the copy stream, while fewer than 16 are outstanding or failed (R114). -/
theorem State.ownReady_of_apply {w : ApplyWrite} {t : Nat} (hr : s.receiving = true) (hh : s.sr.head = some ⟨[], some w⟩)
    (ha : s.appliesOut + s.sr.failedApply.length < 16) (ht : s.freeOwnTag = some t) : s.ownReady = some (t, .apply w) := by
  obtain ⟨hrole, hstate⟩ := s.receiving_session hr
  have hf : s.targetIn .fault = false := by
    rcases hstate with h | h <;> simp [State.targetIn, h, beq_eq_decide]
  have hoffer : s.ownOffer = some (.apply w) := by
    simp [State.ownOffer, hrole, State.offeredApply, hh, hf, hr, Config.ownTags, ha]
  simp [State.ownReady, ht, hoffer]

/-- The request and the record of an apply write (R32). -/
def State.applySent (s : State) (t : Nat) (w : ApplyWrite) : State := { s with
  out := [.memRequest t (if w.poison then .writePoison w.addr else .write w.addr w.mask w.data)]
  mp := { s.mp with
    credits := s.mp.credits - 1
    table := s.mp.table ++ [⟨t, .apply w.granule true, if w.poison then .writePoison else .write, w.addr⟩] } }

/-- The frame of an apply write has left the head of the buffer, with what the freed slot makes due (R108, R114, R116). -/
def State.slotFreed (s : State) (w : ApplyWrite) : State := { s with
  sr := { s.sr with
    buffer := []
    head := none
    freed := min 32 (s.sr.freed + 1)
    creditDue := s.sr.creditDue || s.sr.freed + 1 == 8
    lastGranted := w.seq.getD s.sr.lastGranted } }

theorem State.applyGranted_eq {f : Frame} (w : ApplyWrite) (hr : s.receiving = true) (hb : s.sr.buffer = [f]) :
    s.applyGranted w = s.slotFreed w := by
  let u := s.setSr { s.sr with buffer := [], head := none }
  have hu : u.receiving = true := hr
  have hleave : s.leaveHead = u.raiseFreed := by
    simp only [State.leaveHead, hb, List.tail_cons, State.freeSlot]
    exact if_pos hu
  rw [State.applyGranted, hleave]
  cases h : w.seq <;> simp only [State.slotFreed, h] <;> rfl

theorem exec_arbitration_apply {f : Frame} {w : ApplyWrite} {t : Nat} (hp : s.phase = .running) (hm : 0 < s.mp.credits)
    (hr : s.receiving = true) (hb : s.sr.buffer = [f]) (hh : s.sr.head = some ⟨[], some w⟩)
    (ha : s.appliesOut + s.sr.failedApply.length < 16) (ht : s.freeOwnTag = some t) (hq : s.cp.queue = []) :
    exec .arbitration s = .next ((s.applySent t w).slotFreed w).pump := by
  have hown : (s.setOut []).ownReady = some (t, .apply w) := State.ownReady_of_apply (s := s.setOut []) hr hh ha ht
  have hclient : (s.setOut []).clientReady = false := by simp [State.clientReady, hq]
  have hrecv : (s.applySent t w).receiving = true := hr
  rw [exec_arbitration hp, State.arbitrate_own (s := s.setOut []) hm hclient hown, ← State.applyGranted_eq w hrecv hb]
  rfl

/-- With nothing claimed and no frame behind it, the grant is what the freed slot leaves (R117). -/
theorem exec_arbitration_apply_settled {f : Frame} {w : ApplyWrite} {t : Nat} {v : State} (hp : s.phase = .running)
    (hm : 0 < s.mp.credits) (hr : s.receiving = true) (hb : s.sr.buffer = [f]) (hh : s.sr.head = some ⟨[], some w⟩)
    (ha : s.appliesOut + s.sr.failedApply.length < 16) (ht : s.freeOwnTag = some t) (hq : s.cp.queue = [])
    (hv : (s.applySent t w).slotFreed w = v) (hplace : v.placeable = none) : exec .arbitration s = .next v := by
  have hbuffer : v.sr.buffer = [] := by rw [← hv]; rfl
  rw [exec_arbitration_apply hp hm hr hb hh ha ht hq, hv, State.pump_settled v hplace (State.unprocessed_none hbuffer)]

/-- The freed slot before the eighth makes no CREDIT due (R116). -/
theorem State.slotFreed_early (w : ApplyWrite) (hc : s.sr.creditDue = false) (hf : s.sr.freed < 7) : s.slotFreed w = { s with
    sr := { s.sr with
      buffer := [], head := none, freed := s.sr.freed + 1, lastGranted := w.seq.getD s.sr.lastGranted } } := by
  have hfreed : min 32 (s.sr.freed + 1) = s.sr.freed + 1 := by omega
  have hdue : (s.sr.creditDue || s.sr.freed + 1 == 8) = s.sr.creditDue := by
    simp only [hc, Bool.false_or, beq_eq_false_iff_ne]
    omega
  rw [State.slotFreed, hfreed, hdue]

/-- The eighth freed slot makes a CREDIT due (R116). -/
theorem State.slotFreed_eighth (w : ApplyWrite) (hf : s.sr.freed = 7) : s.slotFreed w = { s with
    sr := { s.sr with
      buffer := [], head := none, freed := 8, creditDue := true, lastGranted := w.seq.getD s.sr.lastGranted } } := by
  have hdue : (s.sr.creditDue || s.sr.freed + 1 == 8) = true := by simp [hf]
  rw [State.slotFreed, hdue, hf]
  rfl

/-- A CREDIT due with no claim before it takes its place, and nothing waits behind it (R116, R117). -/
theorem State.pump_credit (hr : s.receiving = true) (ht : s.sc.takenWaiting = false) (hf : s.sr.failedApply = [])
    (hb : s.sr.buffer = []) (hh : s.sr.head = none) (hc : s.sr.creditDue = true) (hl : s.st.returnList.length < 16) :
    s.pump = s.appendCredit := by
  have hroom : s.st.returnList.length < Config.returnPlaces := hl
  have hplace : s.placeable = some .credit := by
    simp [State.placeable, State.firstClaim, ht, hf, hh, hc, hr, hroom]
  exact State.pump_one hplace (State.placeable_none ht hf hh rfl) (State.unprocessed_none hb)

/-- Settles O9: the freed slot, and the CREDIT it makes due by the room in the return list. -/
theorem applyWriteGrant : Obligations.ApplyWriteGrant := by
  unfold Obligations.ApplyWriteGrant
  intro f w t s hp hm hr hb hh ha hf htw hcd ht hq
  let u := s.applySent t w
  have hsettled {v : State} := exec_arbitration_apply_settled (v := v) hp hm hr hb hh ha ht hq
  refine ⟨fun h => ?_, fun h hl => ?_, fun h hl => ?_⟩
  · exact hsettled (State.slotFreed_early (s := u) w hcd h) (State.placeable_none htw hf rfl hcd)
  · have hpump : (u.slotFreed w).pump = (u.slotFreed w).appendCredit := by
      rw [State.slotFreed_eighth (s := u) w h]
      exact State.pump_credit hr htw hf rfl rfl rfl hl
    rw [exec_arbitration_apply hp hm hr hb hh ha ht hq, hpump, State.slotFreed_eighth (s := u) w h, State.appendCredit]
    simp only [← hcd]
    rfl
  · exact hsettled (State.slotFreed_eighth (s := u) w h) (State.placeable_full hl)

end Sys2Proof.Machine

namespace Sys2Proof.Machine

open Sys2Proof

variable {s : State}

/-! ### The grant of a sweep read (R65, R67) -/

/-- SE offers the next line of the open granule below the ceiling (R65). -/
theorem State.ownReady_of_sweep {r : OpenRecord} {t : Nat} (hw : s.sweeping = true) (hpa : s.se.paused = false)
    (ho : s.se.opened = some r) (hl : r.nextLine < 1024) (hq : s.st.txq.length < 48) (ht : s.freeOwnTag = some t) :
    s.ownReady = some (t, .sweep r.granule r.openNo r.nextLine) := by
  have hb : s.belowCeiling = true := s.belowCeiling_iff.2 hq
  have hoffer : s.ownOffer = some (.sweep r.granule r.openNo r.nextLine) := by
    simp [State.ownOffer, (s.sweeping_session hw).1, State.offeredRead, ho, hw, hb, hpa, Config.linesPerGranule, hl]
  simp [State.ownReady, ht, hoffer]

/-- An append that is not the 63rd raises no alert (R90). -/
theorem State.appendTx_plain (e : TxEntry) (h : ¬ s.st.txq.length = 62) :
    s.appendTx e = s.setSt { s.st with txq := s.st.txq ++ [e] } := by
  rw [State.appendTx_eq, if_neg h]
  rfl

theorem State.clientReady_blocked (h : s.cp.queue = [] ∨ s.cp.hold = true) : s.clientReady = false := by
  obtain h | h := h <;> simp [State.clientReady, h]

/-- The request and the record of a sweep read, its slot at the tail and the next line raised (R32, R65). -/
def State.lineRead (s : State) (t : Nat) (r : OpenRecord) : State := { s with
  out := [.memRequest t (.read (BitVec.ofNat 30 (r.granule * 1024 + r.nextLine)))]
  mp := { s.mp with
    credits := s.mp.credits - 1
    table := s.mp.table ++ [⟨t, .sweep (some (r.openNo, BitVec.ofNat 10 r.nextLine)), .read,
      BitVec.ofNat 30 (r.granule * 1024 + r.nextLine)⟩] }
  st := { s.st with txq := s.st.txq ++ [.slot r.openNo (BitVec.ofNat 10 r.nextLine) none] }
  se := { s.se with opened := some { r with nextLine := r.nextLine + 1 } } }

theorem State.lineRead_length (t : Nat) (r : OpenRecord) : (s.lineRead t r).st.txq.length = s.st.txq.length + 1 := by
  simp [State.lineRead]

/-- An arbitration with the sweep read alone on offer: the read, then the close if it is due (R65, R67). -/
theorem exec_arbitration_sweep {r : OpenRecord} {t : Nat} (hp : s.phase = .running) (hm : 0 < s.mp.credits)
    (hw : s.sweeping = true) (hpa : s.se.paused = false) (ho : s.se.opened = some r) (hl : r.nextLine < 1024)
    (hq : s.st.txq.length < 48) (ht : s.freeOwnTag = some t) (hc : s.cp.queue = [] ∨ s.cp.hold = true) :
    exec .arbitration s = .next (s.lineRead t r).closeIfDue := by
  have hclient : (s.setOut []).clientReady = false := State.clientReady_blocked (s := s.setOut []) hc
  have hown := State.ownReady_of_sweep (s := s.setOut []) hw hpa ho hl hq ht
  have hroom : ¬ s.st.txq.length = 62 := by omega
  let granted := (s.setOut []).grantRecord ⟨t, .sweep (some (r.openNo, BitVec.ofNat 10 r.nextLine)), .read,
    sweepAddr r.granule r.nextLine⟩ (.read (sweepAddr r.granule r.nextLine))
  have hnext : (s.se.opened.map fun r => { r with nextLine := r.nextLine + 1 }) = some { r with nextLine := r.nextLine + 1 } := by
    rw [ho]
    rfl
  have hslot := State.appendTx_plain (s := granted) (.slot r.openNo (BitVec.ofNat 10 r.nextLine) none) hroom
  rw [exec_arbitration hp, State.arbitrate_own (s := s.setOut []) hm hclient hown, State.grantOwn, State.grantSweep, hslot,
    State.lineRead, ← hnext]
  rfl

/-- The close is not due before line 1,023 has been granted, nor at the ceiling (R67, R69). -/
theorem State.closeDue_lineRead_none {r : OpenRecord} (t : Nat) (h : r.nextLine < 1023 ∨ s.st.txq.length = 47) :
    (s.lineRead t r).closeDue = none := by
  have hnot : (Config.linesPerGranule ≤ r.nextLine + 1 && (s.lineRead t r).belowCeiling) = false := by
    obtain hl | hq := h
    · have hlines : ¬ Config.linesPerGranule ≤ r.nextLine + 1 := Nat.not_le.2 (Nat.succ_lt_succ hl)
      simp only [hlines, decide_false, Bool.false_and]
    · have hfull : (s.lineRead t r).belowCeiling = false := by
        rw [← Bool.not_eq_true, State.belowCeiling_iff, State.lineRead_length]
        omega
      rw [hfull, Bool.and_false]
  have hopen : (s.lineRead t r).se.opened = some { r with nextLine := r.nextLine + 1 } := rfl
  rw [State.closeDue, hopen]
  dsimp only
  rw [Bool.and_assoc, hnot, Bool.and_false]
  rfl

/-- The close of the open granule, before the pass or the round is judged (R6, R67). -/
def State.granuleClosed (s : State) (r : OpenRecord) : State := { s with
  gm := s.gmClosed r
  se := { s.se with opened := none }
  st := { s.st with txq := s.st.txq ++ [.frame (.close (BitVec.ofNat 24 r.granule) r.openNo)] } }

/-- A close that is due is taken, and what it brings is judged (R67, R71). -/
theorem State.closeIfDue_taken {r : OpenRecord} (hw : s.sweeping = true) (ho : s.se.opened = some r) (hl : 1024 ≤ r.nextLine)
    (hq : s.st.txq.length < 48) (he : s.entry r.granule = some .uncopied ∨ s.entry r.granule = some .dirty) :
    s.closeIfDue = (s.granuleClosed r).scanCheck := by
  have hb : s.belowCeiling = true := s.belowCeiling_iff.2 hq
  have hdue : s.closeDue = some r := by simp [State.closeDue, ho, hw, hb, Config.linesPerGranule, hl]
  have hroom : ¬ s.st.txq.length = 62 := by omega
  rw [State.closeIfDue, hdue]
  dsimp only
  rw [State.closeGranule, State.appendTx_plain _ hroom, State.granuleClosed, ← s.close_eq_gmClosed r he]
  rfl

/-- The final scan after a close: it stops with CUTOVER_END at D 0, and goes round again at the end of the map (R78). -/
theorem State.scanCheck_cutover_eq (hs : s.sc.state = .cutover) (ho : s.se.opened = none) (hr : s.se.running = true)
    (hq : s.st.txq.length < 62) (hm : s.st.pendingMarks = []) : s.scanCheck = { s with
      se := { s.se with
        running := decide (0 < s.d)
        scanIdx := if 0 < s.d ∧ s.sc.params.span ≤ s.se.scanIdx then 0 else s.se.scanIdx }
      st := { s.st with
        txq := s.st.txq ++ if s.d = 0 then [.frame (.mark s.sc.session .cutoverEnd)] else [] } } := by
  rw [s.scanCheck_cutover ho hr hs]
  by_cases hd : s.d = 0
  · rw [if_pos hd, s.finishScan_eq hq hm]
    simp only [hd, Nat.lt_irrefl, decide_false, false_and, if_false, if_true]
  · simp only [hd, Nat.pos_of_ne_zero hd, decide_true, true_and, if_false, List.append_nil, ← hr]
    by_cases hi : s.sc.params.span ≤ s.se.scanIdx
    · simp only [hi, if_true]
      rfl
    · simp only [hi, if_false]

/-- Settles O8: the read alone, or the close that line 1,023 brings with the end of the pass or the round. -/
theorem sweepReadGrant : Obligations.SweepReadGrant := by
  unfold Obligations.SweepReadGrant
  intro r t s hp hm hw hpa ho hl hq ht hc
  have hrun := exec_arbitration_sweep hp hm hw hpa ho hl hq ht hc
  refine ⟨fun h => ?_, fun hlast hroom he => ?_⟩
  · rw [hrun, State.closeIfDue_none _ (State.closeDue_lineRead_none t h)]
    rfl
  let closed := (s.lineRead t r).granuleClosed { r with nextLine := r.nextLine + 1 }
  have hlen : closed.st.txq.length < 60 := by
    simp only [closed, State.granuleClosed, List.length_append, State.lineRead_length, List.length_singleton]
    omega
  have hclosed : closed = { s.lineRead t r with
      gm := s.gmClosed r
      st := { s.st with txq := s.st.txq ++ [.slot r.openNo (BitVec.ofNat 10 r.nextLine) none,
        .frame (.close (BitVec.ofNat 24 r.granule) r.openNo)] }
      se := { s.se with opened := none } } := by
    simp only [closed, State.granuleClosed, State.lineRead, List.append_assoc, List.singleton_append]
    rfl
  have hread : (s.lineRead t r).st.txq.length < 48 := by
    rw [State.lineRead_length]
    omega
  have hdue : 1024 ≤ r.nextLine + 1 := by omega
  have hclose : exec .arbitration s = .next closed.scanCheck :=
    hrun.trans (congrArg _ (State.closeIfDue_taken (s := s.lineRead t r) hw rfl hdue hread he))
  rw [hclose]
  refine ⟨fun h => ?_, fun h hr hmarks => ?_, fun hs hr hmarks => ?_⟩
  · rw [closed.scanCheck_goes_on h, hclosed]
    rfl
  · rw [closed.scanCheck_done rfl hr h, closed.passEnd_eq hlen hmarks, hclosed]
    rfl
  · rw [State.scanCheck_cutover_eq (s := closed) hs rfl hr (Nat.lt_trans hlen (by omega)) hmarks, hclosed]
    simp only [List.append_assoc, List.cons_append, List.nil_append]
    rfl

end Sys2Proof.Machine

/-! ## The grant of a captured write -/

namespace Sys2Proof.Machine

open Sys2Proof

variable {s : State}

/-! ### The notice of a captured write (R31, R43, R46, R48) -/

/-- WCU acts on captures on a SOURCE alone (R42). -/
theorem State.captureActs_role (h : s.captureActs = true) : s.sc.role = .source := by
  simp only [State.captureActs, State.sourceIn, Bool.and_eq_true, Bool.or_eq_true, beq_iff_eq] at h
  obtain ⟨((⟨hr, -⟩ | ⟨hr, -⟩) | ⟨hr, -⟩) | ⟨hr, -⟩, -⟩ := h <;> exact hr

/-- A part that does not fence refuses no head (R28). -/
theorem State.headRefused_unfenced (h : s.fencing = false) : s.headRefused = false := by
  rw [State.headRefused, h, Bool.false_and]

/-- The uncontested grant of a write to a part whose WCU acts: the request goes out, then WCU takes its notice, and the next head
stands, as a SOURCE does not fence (R28, R31, R36). -/
theorem exec_arbitration_captured {tag : Fin 64} {a : LineAddr} {m : ByteMask} {d : LineData} {rest : List ClientRequest}
    (hp : s.phase = .running) (hm : 0 < s.mp.credits) (hq : s.cp.queue = .write tag a m d :: rest) (hh : s.cp.hold = false)
    (hs : s.shadowStall = false) (ho : s.ownReady = none) (ha : s.captureActs = true) :
    exec .arbitration s = .next ((s.clientGranted (.write tag a m d) rest).captureNotice a m d) := by
  let granted := s.clientGranted (.write tag a m d) rest
  have hready : (s.setOut []).clientReady = true := State.clientReady_iff.2 ⟨by simp [hq], hh, hs⟩
  have hfence : (granted.captureNotice a m d).fencing = false := by
    refine eq_false_of_ne_true fun h => ?_
    have hf : s.fencing = true := (Orderly.captureNotice (C := True) granted a m d).fencing h
    exact absurd ((s.fencing_role hf).symm.trans (State.captureActs_role ha)) nofun
  have hstands := State.judgeHead_stands _ (State.headRefused_unfenced hfence)
  rw [exec_arbitration hp, State.arbitrate_client (s := s.setOut []) hm hq hready ho, State.grantClient_eq,
    State.forwarded_eq hq, State.noticeGrant, hstands]

/-- A write is classed MIRROR where its granule is COPIED, or open (R43). -/
theorem State.classify_mirror_iff {g : Nat} : s.classify g = .mirror ↔ s.entry g = some .copied ∨
    (s.isOpen g = true ∧ (s.entry g = some .uncopied ∨ s.entry g = some .dirty)) := by
  cases he : s.entry g with
  | none => simp [State.classify, he]
  | some x => cases x <;> simp [State.classify, he]

/-- Outside the image, EXCLUDED, and neither COPIED nor open are the classes PASS and SWEEP-CARRIED (R43). -/
theorem State.classify_unmirrored {g : Nat} (h : s.entry g = none ∨ s.entry g = some .excluded ∨
    (s.entry g ≠ some .copied ∧ s.isOpen g = false)) : s.classify g ≠ .mirror := by
  rw [Ne, State.classify_mirror_iff]
  obtain h | h | ⟨hc, ho⟩ := h
  · simp [h]
  · simp [h]
  · simp [hc, ho]

/-- A write of another class than MIRROR is let pass with nothing done (R43). -/
theorem State.captureNotice_unmirrored {a : LineAddr} {m : ByteMask} {d : LineData}
    (h : s.classify (a.toNat / 1024) ≠ .mirror) : s.captureNotice a m d = s := by
  have h : s.classify (granuleOf a.toNat) ≠ .mirror := h
  unfold State.captureNotice
  split
  · split
    · rfl
    · rfl
    · exact absurd ‹_› h
  · rfl

/-- A write classed MIRROR is mirrored where there is room, and degraded otherwise (R46, R48). -/
theorem State.captureNotice_mirror {a : LineAddr} {m : ByteMask} {d : LineData} (ha : s.captureActs = true)
    (h : s.classify (a.toNat / 1024) = .mirror) :
    s.captureNotice a m d = if s.mirrorRoom then s.mirror a m d else s.degrade a := by
  have h : s.classify (granuleOf a.toNat) = .mirror := h
  simp only [State.captureNotice, ha, if_true, h]

/-- A mirror has room below 64 entries of the TXQ and 128 records of the MRL (R46). -/
theorem State.mirrorRoom_iff : s.mirrorRoom = true ↔ s.st.txq.length < 64 ∧ s.st.mrl.length < 128 := by
  simp only [State.mirrorRoom, Bool.and_eq_true, decide_eq_true_eq]
  rfl

/-- A mirror's frame, record and sequence number, with TXQ_HIGH at the 63rd entry (R46, R90). -/
theorem State.mirror_eq (a : LineAddr) (m : ByteMask) (d : LineData) : s.mirror a m d = { s with
    st := { s.st with
      txq := s.st.txq ++ [.frame (.mirror s.st.mirrorSeq (a.setWidth 32) m d)]
      mrl := s.st.mrl ++ [⟨s.st.mirrorSeq, a.toNat / 1024⟩]
      mirrorSeq := s.st.mirrorSeq + 1 }
    au := { s.au with latch := if s.st.txq.length = 62 then s.au.latch ||| 0x080#12 else s.au.latch } } := by
  rw [State.mirror, State.appendTx_eq]
  rfl

/-- A write classed MIRROR with the TXQ or the MRL full is degraded at its grant (R46, R48). -/
theorem exec_arbitration_degraded {tag : Fin 64} {a : LineAddr} {m : ByteMask} {d : LineData} {rest : List ClientRequest}
    (hp : s.phase = .running) (hm : 0 < s.mp.credits) (hq : s.cp.queue = .write tag a m d :: rest) (hh : s.cp.hold = false)
    (hs : s.shadowStall = false) (ho : s.ownReady = none) (ha : s.captureActs = true)
    (hfull : 64 ≤ s.st.txq.length ∨ 128 ≤ s.st.mrl.length) (hclass : s.classify (a.toNat / 1024) = .mirror) :
    exec .arbitration s = .next ((s.clientGranted (.write tag a m d) rest).degrade a) := by
  let granted := s.clientGranted (.write tag a m d) rest
  have hroom : granted.mirrorRoom ≠ true := fun h => by
    obtain ⟨ht, hl⟩ := State.mirrorRoom_iff.1 h
    exact hfull.elim (Nat.not_le.2 ht) (Nat.not_le.2 hl)
  rw [exec_arbitration_captured hp hm hq hh hs ho ha, State.captureNotice_mirror (s := granted) ha hclass, if_neg hroom]

/-- The count and the capture of a degrade come behind what its MARK-DIRTY leaves (R48, R49; log 26). -/
theorem State.degrade_eq {a : LineAddr} {t : State} (h : s.markDirty (a.toNat / 1024) = t) : s.degrade a = t.setMgp { t.mgp with
    counters := { t.mgp.counters with degraded := min 16777215 (t.mgp.counters.degraded + 1) }
    event := t.captured .degrade (some (a.toNat / 1024)) (.lineAddr a.toNat) } := by
  subst h
  rfl

/-- A capture over an unread record sets OVERRUN (R183). -/
theorem State.captured_unread (k : EventKind) (g : Option Nat) (x : Detail) (h : s.mgp.event.unread = true) :
    s.captured k g x = ⟨k, g, x, s.eventPass, true, true⟩ := by
  rw [State.captured, h, Bool.or_true]

/-! ### SYNC_LOST where its mark finds no room (R18, R89, R174) -/

/-- A dropped mark that is not RELEASE is counted and captured (R89). -/
theorem State.dropMark_eq {k : MarkKind} (hk : k ≠ .release) :
    s.dropMark k = (s.count .discarded).capture .discard none (.markKind k.code) := if_neg hk

/-- A mark that is not RELEASE and the start of a rinse pass do not meet: the one writes ST, AU and MGP, the other SE and GM. -/
theorem State.appendMark_startRinse {k : MarkKind} (hk : k ≠ .release) :
    s.startRinse.appendMark k = (s.appendMark k).startRinse := by
  by_cases hroom : s.st.txq.length < 64 ∧ s.st.pendingMarks = []
  · obtain ⟨ht, hm⟩ := hroom
    rw [s.appendMark_room k ht hm, s.startRinse.appendMark_room k ht hm, State.appendTx_eq, State.appendTx_eq]
    rfl
  · by_cases hplace : s.st.pendingMarks.length < 8
    · rw [s.appendMark_waits k hroom hplace, s.startRinse.appendMark_waits k hroom hplace]
      rfl
    · have hplace := Nat.not_lt.1 hplace
      rw [s.appendMark_dropped k hroom hplace, s.startRinse.appendMark_dropped k hroom hplace, State.dropMark_eq hk,
        State.dropMark_eq hk]
      rfl

/-- What SYNC_LOST leaves behind its mark (R174). -/
def State.lostSync (s : State) : State := { s with
  gm := { s.gm with nc := 0, nd := 0, ndNext := 0 }
  se := s.seRinsing
  sc := { s.sc with state := .rinse }
  cvu := { s.cvu with attempts := 0 }
  au := { s.au with latch := s.au.latch ||| 0x040#12 } }

theorem State.syncLost_marked {t : State} (h : s.appendMark .syncLost = t) : s.syncLost = t.lostSync := by
  rw [State.syncLost, h]
  rfl

/-- SYNC_LOST starts its own rinse pass, whether or not D rising from 0 had started one at the same event (R74, R174). -/
theorem State.syncLost_startRinse : s.startRinse.syncLost = s.syncLost := by
  rw [State.syncLost_marked (State.appendMark_startRinse (k := .syncLost) nofun), s.syncLost_marked rfl]
  rfl

/-- In SHADOW a transition raises SYNC_LOST, from D 0 as well (R18). -/
theorem State.dirty_syncLost (g : Nat) (hs : s.sourceIn .shadow = true) : s.dirty g = (s.setGm (s.gmDirtied g)).syncLost := by
  rw [State.dirty, hs, if_pos rfl, s.gm_dirtied]
  split
  · rw [State.wake]
    split
    · exact State.syncLost_startRinse
    · rfl
  · rfl

/-- At a full TXQ the SYNC_LOST mark is pending (R89). -/
theorem State.dirty_shadow_waits (g : Nat) (hs : s.sourceIn .shadow = true) (ht : 64 ≤ s.st.txq.length)
    (hp : s.st.pendingMarks.length < 8) : s.dirty g = ((s.setGm (s.gmDirtied g)).setSt { s.st with
      pendingMarks := s.st.pendingMarks ++ [⟨s.sc.session, .syncLost⟩] }).lostSync := by
  have hroom : ¬ (s.st.txq.length < 64 ∧ s.st.pendingMarks = []) := fun h => Nat.not_lt.2 ht h.1
  rw [State.dirty_syncLost g hs]
  exact State.syncLost_marked (State.appendMark_waits (s.setGm (s.gmDirtied g)) .syncLost hroom hp)

/-- Behind 8 pending marks the SYNC_LOST mark is dropped, counted and captured (R89). -/
theorem State.dirty_shadow_dropped (g : Nat) (hs : s.sourceIn .shadow = true) (hp : 8 ≤ s.st.pendingMarks.length) :
    s.dirty g = ((s.setGm (s.gmDirtied g)).setMgp { s.mgp with
      counters := { s.mgp.counters with discarded := min 16777215 (s.mgp.counters.discarded + 1) }
      event := s.captured .discard none (.markKind MarkKind.syncLost.code) }).lostSync := by
  have hroom : ¬ (s.st.txq.length < 64 ∧ s.st.pendingMarks = []) := fun h => by simp [h.2] at hp
  have hdrop := State.appendMark_dropped (s.setGm (s.gmDirtied g)) .syncLost hroom hp
  rw [State.dirty_syncLost g hs]
  exact State.syncLost_marked (hdrop.trans (State.dropMark_eq nofun))

/-- Settles O7: the class of the write, the room for its mirror, and for a degraded one what its MARK-DIRTY sets going. -/
theorem capturedWriteGrant : Obligations.CapturedWriteGrant := by
  unfold Obligations.CapturedWriteGrant
  refine ⟨fun tag a m d rest s hp hm hq hh hs ho ha => ?_, fun tag a m d rest s hp hm hq hh hs ho ha hfull => ?_⟩
  · have hrun := exec_arbitration_captured hp hm hq hh hs ho ha
    let granted := s.clientGranted (.write tag a m d) rest
    refine ⟨fun h => ?_, fun h ht hl => ?_⟩
    · rw [hrun, State.captureNotice_unmirrored (s := granted) (State.classify_unmirrored (s := s) h)]
      rfl
    · have hclass : granted.classify (a.toNat / 1024) = .mirror := (State.classify_mirror_iff (s := s)).2 h
      have hroom : granted.mirrorRoom = true := State.mirrorRoom_iff.2 ⟨ht, hl⟩
      rw [hrun, State.captureNotice_mirror (s := granted) ha hclass, if_pos hroom, State.mirror_eq]
      rfl
  · let granted := s.clientGranted (.write tag a m d) rest
    have hrun (h : s.entry (a.toNat / 1024) = some .copied ∨ (s.isOpen (a.toNat / 1024) = true ∧
        (s.entry (a.toNat / 1024) = some .uncopied ∨ s.entry (a.toNat / 1024) = some .dirty))) :=
      exec_arbitration_degraded hp hm hq hh hs ho ha hfull (State.classify_mirror_iff.2 h)
    have hrole : granted.sc.role = .source := State.captureActs_role ha
    have hshadow : granted.sourceIn .shadow = decide (s.sc.state = .shadow) := by
      have hsc : granted.sc = s.sc := rfl
      rw [State.sourceIn, hrole, hsc]
      rfl
    refine ⟨fun hop he => ?_, fun hop he => ?_⟩
    · rw [hrun (.inr ⟨hop, he⟩), State.degrade_eq (State.markDirty_open granted he hop).2]
      rfl
    · have hmark := (State.markDirty_copied granted he hop).2
      rw [hrun (.inl he)]
      refine ⟨fun hst hw => ?_, fun hst hd hw hpa => ?_, fun hst ht hpm => ?_, fun hst ht hpm => ?_, fun hst hpm => ?_⟩
      · rw [State.degrade_eq (hmark.trans (granted.dirty_rests _ (by simp [hshadow, hst]) hw))]
        rfl
      · rw [State.degrade_eq (hmark.trans (granted.dirty_wakes _ (by simp [hshadow, hst]) hd hw hpa))]
        rfl
      · rw [State.degrade_eq (hmark.trans (granted.dirty_shadow _ (by simp [hshadow, hst]) ht hpm))]
        rfl
      · rw [State.degrade_eq (hmark.trans (State.dirty_shadow_waits _ (by simp [hshadow, hst]) ht hpm))]
        rfl
      · rw [State.degrade_eq (hmark.trans (State.dirty_shadow_dropped _ (by simp [hshadow, hst]) hpm)),
          State.captured_unread .degrade _ _ rfl]
        rfl

end Sys2Proof.Machine

/-! ## The bytes of commands, and the tick of the timebase -/

namespace Sys2Proof

/-- A byte outside the set gives UNKNOWN (R199). -/
theorem Instr.ofCommand_unknown {flock : Bool} {b : Byte} {ps : List Byte} (h : commandBytes.contains b = false) :
    Instr.ofCommand flock b ps = .unknown b ps := by
  have hne : ∀ x ∈ commandBytes, b ≠ x := fun x hx hb => by
    rw [hb, List.contains_iff_mem.2 hx] at h
    cases h
  simp only [commandBytes, List.forall_mem_cons] at hne
  simp [Instr.ofCommand, hne]

/-- The byte of SKIP gives SKIP_EXTENT with the byte that names EXTENT, and SKIP_LEVEL otherwise (R63; log 21). -/
theorem Instr.ofCommand_skip (flock : Bool) (ps : List Byte) :
    Instr.ofCommand flock 0x24#8 ps = if ps = [2#8] then .skipExtent ps else .skipLevel ps := rfl

/-- Settles O58: a command's own byte leads back to its row, UNKNOWN past every row, SKIP by what its parameter names. -/
theorem commandBytesRoundTrip : Obligations.CommandBytesRoundTrip := by
  unfold Obligations.CommandBytesRoundTrip
  intro c bs hw h
  cases c with
  | unknown b ps =>
    cases h
    exact congrArg some (Instr.ofCommand_unknown (by simpa [Instr.wf] using hw))
  | skipLevel ps =>
    cases h
    exact congrArg some ((Instr.ofCommand_skip _ ps).trans (if_neg (by simpa [Instr.wf] using hw)))
  | skipExtent ps =>
    cases h
    exact congrArg some ((Instr.ofCommand_skip _ ps).trans (if_pos (by simpa [Instr.wf] using hw)))
  | _ => cases h <;> rfl

end Sys2Proof

namespace Sys2Proof.Machine

open Sys2Proof

/-- A timer after one µs: it counts up to its limit where it runs (R92, R129, R165). -/
theorem Timer.tick_eq (t : Timer) (limit : Nat) :
    t.tick limit = ⟨t.running, if t.running then min limit (t.count + 1) else t.count⟩ := by
  obtain ⟨running, count⟩ := t
  cases running <;> rfl

/-- The silent timer after one µs: an interval more once KI µs have passed (R106). -/
theorem Silent.tick_eq (t : Silent) (ki sl : Nat) : t.tick ki sl =
    if t.running = false then t
    else if t.us + 1 < ki then ⟨true, t.us + 1, t.intervals⟩ else ⟨true, 0, min sl (t.intervals + 1)⟩ := by
  obtain ⟨running, us, intervals⟩ := t
  cases running with
  | false => rfl
  | true =>
    by_cases h : ki ≤ us + 1
    · simp [Silent.tick, h, Nat.not_lt.2 h]
    · simp [Silent.tick, h, Nat.not_le.1 h]

/-- The pass timer runs on a SOURCE whose pass runs, in SWEEP or RINSE and not PAUSED (R75). -/
theorem State.passTiming_iff (s : State) : s.passTiming = true ↔
    s.sc.role = .source ∧ (s.sc.state = .sweep ∨ s.sc.state = .rinse) ∧ s.se.running = true ∧ s.se.paused = false := by
  simp only [State.passTiming, State.sourceIn, Bool.and_eq_true, Bool.or_eq_true, beq_iff_eq, Bool.not_eq_true']
  tauto

/-- One µs on a running part, unit by unit (log 2). -/
theorem State.tick_running {s : State} (hp : s.phase = .running) : s.tick = { s with
    out := []
    se := { s.se with passTimer := if s.passTiming then satSucc Config.max24 s.se.passTimer else s.se.passTimer }
    st := { s.st with keepalive := s.st.keepalive.tick s.sc.params.ki }
    sr := { s.sr with silent := s.sr.silent.tick s.sc.params.ki s.sc.params.sl }
    sc := { s.sc with
      handshake := s.sc.handshake.tick Config.handshakeLimit
      holdTimer := s.sc.holdTimer.tick s.sc.params.hLimit } } := by
  have hout : (s.setOut []).passTiming = s.passTiming := rfl
  unfold State.tick
  rw [if_pos hp]
  dsimp only
  rw [hout]
  split <;> rfl

/-- Settles O2: each timer by its own tick; in a reset the outputs alone are cleared. -/
theorem idleStepCountsOneMicrosecond : Obligations.IdleStepCountsOneMicrosecond := by
  unfold Obligations.IdleStepCountsOneMicrosecond
  intro s hq
  have hstep : step s = .next s.tick := by rw [step, hq]
  refine ⟨fun hp => ?_, fun hp => ?_⟩
  · rw [hstep, State.tick_running hp]
    simp only [Timer.tick_eq, Silent.tick_eq, State.passTiming_iff]
    rfl
  · rw [hstep, State.tick, if_neg hp]
    rfl

end Sys2Proof.Machine

/-! ## The plan cursor -/

namespace Sys2Proof.Machine

open Sys2Proof

/-! ### Positions of an extent (R60, R61) -/

/-- The sum of R60 is first plus the sum of the levels' terms. -/
theorem positionSum_eq (first : Nat) (ls : List Level) (rem : List Nat) : positionSum first ls rem =
    first + ((ls.zip rem).map fun p => (p.1.count - p.2) * p.1.stride).sum := by
  induction ls generalizing first rem with
  | nil => rfl
  | cons l ls ih =>
    cases rem with
    | nil => rfl
    | cons r rs =>
      simp only [positionSum, ih, List.zip_cons_cons, List.map_cons, List.sum_cons]
      omega

/-- With every level exhausted there is no step within the extent. -/
theorem stepLevels_exhausted {rem : List Nat} (ls : List Level) (h : ∀ r ∈ rem, r ≤ 1) : stepLevels ls rem = none := by
  induction rem generalizing ls with
  | nil => cases ls <;> rfl
  | cons r rs ih =>
    obtain ⟨hr, hrs⟩ := List.forall_mem_cons.1 h
    cases ls with
    | nil => rfl
    | cons l ls => simp [stepLevels, ih ls hrs, hr]

/-- A step lowers the innermost count above 1 and enters the levels inside it again. -/
theorem stepLevels_lowers {ls : List Level} {pre : List Nat} {r k : Nat}
    (hl : (pre ++ r :: List.replicate k 1).length = ls.length) (hr : 1 < r) :
    stepLevels ls (pre ++ r :: List.replicate k 1) =
      some (pre ++ (r - 1) :: (ls.drop (pre.length + 1)).map Level.count) := by
  induction pre generalizing ls with
  | nil =>
    cases ls with
    | nil => simp at hl
    | cons l ls =>
      have hin : stepLevels ls (List.replicate k 1) = none :=
        stepLevels_exhausted ls fun x hx => (List.eq_of_mem_replicate hx).le
      simp [stepLevels, hin, hr]
  | cons p pre ih =>
    cases ls with
    | nil => simp at hl
    | cons l ls => simp [stepLevels, ih (Nat.succ.inj hl)]

/-- SKIP LEVEL in a level that is not the innermost one: the levels inside it, or the level itself, take the step. -/
theorem skipInnermost_cons (l : Level) {ls : List Level} (r : Nat) (rs : List Nat) (h : ls ≠ []) :
    skipInnermost (l :: ls) (r :: rs) =
      (skipInnermost ls rs).elim (if 1 < r then some ((r - 1) :: ls.map Level.count) else none) fun rs' => some (r :: rs') := by
  cases ls with
  | nil => exact absurd rfl h
  | cons l' ls =>
    cases hin : skipInnermost (l' :: ls) rs <;> simp [skipInnermost, hin]

/-- SKIP LEVEL is a step of the levels outside the innermost one, which is entered again (R63). -/
theorem skipInnermost_eq {ls : List Level} {rem : List Nat} (l : Level) (i : Nat) (h : rem.length = ls.length) :
    skipInnermost (ls ++ [l]) (rem ++ [i]) = (stepLevels ls rem).map (· ++ [l.count]) := by
  induction ls generalizing rem with
  | nil =>
    cases List.length_eq_zero_iff.1 h
    rfl
  | cons a ls ih =>
    cases rem with
    | nil => cases h
    | cons r rs =>
      rw [List.cons_append, List.cons_append, skipInnermost_cons _ _ _ (by simp), ih (Nat.succ.inj h), stepLevels]
      cases stepLevels ls rs with
      | some rs' => rfl
      | none =>
        by_cases hr : 1 < r <;> simp [hr]

/-- SKIP LEVEL with every level outside the innermost one exhausted leaves no position of the extent. -/
theorem skipInnermost_exhausted {ls : List Level} {rem : List Nat} (hl : rem.length = ls.length)
    (h : ∀ r ∈ rem.dropLast, r ≤ 1) : skipInnermost ls rem = none := by
  obtain rfl | ⟨ls, l, rfl⟩ := ls.eq_nil_or_concat'
  · rfl
  · obtain rfl | ⟨rem, i, rfl⟩ := rem.eq_nil_or_concat'
    · simp at hl
    · rw [List.dropLast_concat] at h
      rw [skipInnermost_eq l i (by simpa using hl), stepLevels_exhausted ls h]
      rfl

/-- SKIP LEVEL steps the next level outward that is not exhausted and enters the levels inside it again. -/
theorem skipInnermost_lowers {ls : List Level} {pre : List Nat} {r k inner : Nat}
    (hl : (pre ++ r :: (List.replicate k 1 ++ [inner])).length = ls.length) (hr : 1 < r) :
    skipInnermost ls (pre ++ r :: (List.replicate k 1 ++ [inner])) =
      some (pre ++ (r - 1) :: (ls.drop (pre.length + 1)).map Level.count) := by
  obtain rfl | ⟨ls, l, rfl⟩ := ls.eq_nil_or_concat'
  · simp at hl
  · have hlen : (pre ++ r :: List.replicate k 1).length = ls.length := by
      simp only [List.length_append, List.length_cons, List.length_nil, List.length_replicate] at hl ⊢
      omega
    have hassoc : pre ++ r :: (List.replicate k 1 ++ [inner]) = (pre ++ r :: List.replicate k 1) ++ [inner] := by simp
    have hdrop : pre.length + 1 ≤ ls.length := by
      simp only [List.length_append, List.length_cons, List.length_replicate] at hlen
      omega
    rw [hassoc, skipInnermost_eq l inner hlen, stepLevels_lowers hlen hr, List.drop_append_of_le_length hdrop]
    simp

/-! ### The cursor moves (R61, R63) -/

section Cursor

variable {c : Cursor} {plan : List Extent} {span : Nat} {e : Extent}

theorem Cursor.levels_eq (h : plan[c.extent]? = some e) : c.levels plan = e.levels := by
  simp [Cursor.levels, h]

/-- At a position of its extent the cursor names the granule of R60. -/
theorem Cursor.moveTo_within (h : plan[c.extent]? = some e) (rem : List Nat) : c.moveTo plan span (some rem) = { c with
    remaining := rem
    next := some ((e.first + ((e.levels.zip rem).map fun p => (p.1.count - p.2) * p.1.stride).sum) % span) } := by
  simp [Cursor.moveTo, h, positionOf, positionSum_eq]

/-- Past its last position the cursor enters the next extent. -/
theorem Cursor.moveTo_next {f : Extent} (h : plan[c.extent + 1]? = some f) :
    c.moveTo plan span none = ⟨c.extent + 1, f.levels.map Level.count, some (f.first % span), false⟩ := by
  simp [Cursor.moveTo, enterExtent, h]

/-- Past the last extent pass-0-done is set. -/
theorem Cursor.moveTo_last (h : plan.length ≤ c.extent + 1) : c.moveTo plan span none = ⟨c.extent + 1, [], none, true⟩ := by
  simp [Cursor.moveTo, enterExtent, List.getElem?_eq_none h]

theorem Cursor.step_within {pre : List Nat} {r k : Nat} (he : plan[c.extent]? = some e)
    (hl : c.remaining.length = e.levels.length) (hrem : c.remaining = pre ++ r :: List.replicate k 1) (hr : 1 < r) :
    c.step plan span = c.moveTo plan span (some (pre ++ (r - 1) :: (e.levels.drop (pre.length + 1)).map Level.count)) := by
  rw [Cursor.step, Cursor.levels_eq he, hrem, stepLevels_lowers (hrem ▸ hl) hr]

theorem Cursor.step_exhausted (h : ∀ r ∈ c.remaining, r ≤ 1) : c.step plan span = c.moveTo plan span none := by
  rw [Cursor.step, stepLevels_exhausted _ h]

theorem Cursor.skipExtent_eq (hd : c.done = false) : c.skipExtent plan span = c.moveTo plan span none := by
  simp [Cursor.skipExtent, hd]

theorem Cursor.skipLevel_within {pre : List Nat} {r k inner : Nat} (hd : c.done = false) (he : plan[c.extent]? = some e)
    (hl : c.remaining.length = e.levels.length) (hrem : c.remaining = pre ++ r :: (List.replicate k 1 ++ [inner])) (hr : 1 < r) :
    c.skipLevel plan span = c.moveTo plan span (some (pre ++ (r - 1) :: (e.levels.drop (pre.length + 1)).map Level.count)) := by
  rw [Cursor.skipLevel, if_neg (by simp [hd]), Cursor.levels_eq he, hrem, skipInnermost_lowers (hrem ▸ hl) hr]

theorem Cursor.skipLevel_exhausted (hd : c.done = false) (he : plan[c.extent]? = some e)
    (hl : c.remaining.length = e.levels.length) (h : ∀ r ∈ c.remaining.dropLast, r ≤ 1) :
    c.skipLevel plan span = c.moveTo plan span none := by
  rw [Cursor.skipLevel, if_neg (by simp [hd]), Cursor.levels_eq he, skipInnermost_exhausted hl h]

end Cursor

end Sys2Proof.Machine

/-! ## Visits -/

namespace Sys2Proof.Machine

open Sys2Proof

variable {s : State}

/-! ### What a visit comes to (R62, R64) -/

/-- SE at a visit: in pass 0 the cursor steps, otherwise the scan index rises (R62). -/
def State.seVisited (s : State) : Se :=
  if s.sc.state = .sweep then { s.se with cursor := s.se.cursor.step s.se.plan s.sc.params.span }
  else { s.se with scanIdx := s.se.scanIdx + 1 }

/-- A visited granule, before it is opened or skipped. -/
def State.visited (s : State) : State := { s with out := [], se := s.seVisited }

theorem State.seVisited_sweep (h : s.sc.state = .sweep) :
    s.seVisited = { s.se with cursor := s.se.cursor.step s.se.plan s.sc.params.span } := if_pos h

theorem State.seVisited_scan (h : s.sc.state ≠ .sweep) : s.seVisited = { s.se with scanIdx := s.se.scanIdx + 1 } := if_neg h

theorem State.stepVisit_eq : (s.setOut []).stepVisit = s.visited := by
  unfold State.visited
  by_cases h : s.sc.state = .sweep
  · rw [State.seVisited_sweep h]
    exact if_pos h
  · rw [State.seVisited_scan h]
    exact if_neg h

/-- A visit leaves the open record, the open number and the flags. -/
theorem State.seVisited_frame : s.seVisited.opened = s.se.opened ∧ s.seVisited.openNo = s.se.openNo ∧
    s.seVisited.running = s.se.running := by
  unfold State.seVisited
  split <;> exact ⟨rfl, rfl, rfl⟩

/-- The conditions of a visit of some granule (R62). -/
structure State.Visits (s : State) (g : Nat) : Prop where
  phase : s.phase = .running
  sweeping : s.sweeping = true
  running : s.se.running = true
  closed : s.se.opened = none
  unpaused : s.se.paused = false
  room : s.st.txq.length < 48
  target : if s.sc.state = .sweep then s.se.cursor.done = false ∧ s.se.cursor.next = some g
    else s.se.scanIdx < s.sc.params.span ∧ s.se.scanIdx = g

/-- SE works in three states (4.7). -/
theorem State.sweeping_cases (h : s.sweeping = true) :
    s.sc.state = .sweep ∨ s.sc.state = .rinse ∨ s.sc.state = .cutover := by
  simp only [State.sweeping, State.sourceIn, Bool.and_eq_true, Bool.or_eq_true, beq_iff_eq] at h
  tauto

variable {g : Nat}

/-- VISIT with its conditions met is a visit of its granule (R62). -/
theorem State.Visits.exec (h : s.Visits g) : exec .visit s = .next ((s.setOut []).visitGranule g) := by
  have hmay : (s.setOut []).mayVisit = true := by
    have hw : (s.setOut []).sweeping = true := h.sweeping
    have hb : (s.setOut []).belowCeiling = true := decide_eq_true h.room
    simp [State.mayVisit, hw, hb, h.running, h.closed, h.unpaused]
  have htarget : (s.setOut []).visitTarget = some g := by
    have ht := h.target
    unfold State.visitTarget
    simp only [State.setOut_sc, State.setOut_se]
    split at ht
    · simp [*]
    · obtain ⟨hi, rfl⟩ := ht
      simp [*]
  have hrun : Machine.exec .visit s = .next (s.setOut []).visit := event_running s State.visit h.phase
  rw [hrun, State.visit, if_pos hmay, htarget]

/-- A visit of a granule that is UNCOPIED or DIRTY opens it (R64). -/
theorem State.Visits.exec_opens (h : s.Visits g) (he : s.entry g = some .uncopied ∨ s.entry g = some .dirty) :
    Machine.exec .visit s = .next (s.visited.openGranule g) := by
  have hgo : (s.setOut []).visitGranule g = s.visited.openGranule g := by
    have hentry : (s.setOut []).entry g = s.entry g := rfl
    rw [State.visitGranule, State.stepVisit_eq, hentry]
    rcases he with he | he <;> rw [he]
  rw [h.exec, hgo]

/-- A visit of a granule that is COPIED or EXCLUDED skips it; the pass or the round may end there (R62, R71, R72, R78). -/
theorem State.Visits.exec_skips (h : s.Visits g) (he : s.entry g = some .copied ∨ s.entry g = some .excluded) :
    Machine.exec .visit s = .next s.visited.scanCheck := by
  have hgo : (s.setOut []).visitGranule g = s.visited.scanCheck := by
    have hentry : (s.setOut []).entry g = s.entry g := rfl
    rw [State.visitGranule, State.stepVisit_eq, hentry]
    rcases he with he | he <;> rw [he]
  rw [h.exec, hgo]

/-- An open with room below TXQ_HIGH: the record, the open number and the OPEN frame (R64). -/
theorem State.openGranule_eq (g : Nat) (h : s.st.txq.length < 62) : s.openGranule g = { s with
    se := { s.se with opened := some ⟨g, s.se.openNo, 0, 0, false, 0⟩, openNo := s.se.openNo + 1 }
    st := { s.st with txq := s.st.txq ++ [.frame (.opening (BitVec.ofNat 24 g) s.se.openNo)] } } := by
  unfold State.openGranule
  exact State.appendTx_plain _ (Nat.ne_of_lt h)

/-- A skipped visit that leaves more to visit ends nothing (R71, R72, R78). -/
theorem State.scanCheck_visit_goes_on (hw : s.sweeping = true)
    (h : if s.sc.state = .sweep then s.se.cursor.done = false
      else s.se.scanIdx < s.sc.params.span ∧ (s.sc.state = .cutover → 0 < s.d)) : s.scanCheck = s := by
  obtain hs | hs | hs := State.sweeping_cases hw
  · exact s.scanCheck_goes_on (.inl ⟨hs, by simpa [hs] using h⟩)
  · exact s.scanCheck_goes_on (.inr (.inl ⟨hs, by simpa [hs] using h⟩))
  · obtain ⟨hi, hd⟩ : s.se.scanIdx < s.sc.params.span ∧ 0 < s.d := by simpa [hs] using h
    by_cases hn : s.se.opened.isSome = true ∨ s.se.running = false
    · exact s.scanCheck_idle hn
    · simp only [not_or, Bool.not_eq_true, Option.isSome_eq_false_iff, Option.isNone_iff_eq_none, Bool.not_eq_false] at hn
      rw [s.scanCheck_cutover hn.1 hn.2 hs, if_neg (Nat.ne_of_gt hd), if_neg (Nat.not_le.2 hi)]

/-- Settles O15: the visit by its granule's entry, the skipped one by what the pass or the round comes to, the cursor by its
levels. -/
theorem visitOpensOrSkips : Obligations.VisitOpensOrSkips := by
  unfold Obligations.VisitOpensOrSkips
  refine ⟨fun g s hp hw hr ho hpa hq ht => ?_, fun c plan span e he hl =>
    ⟨fun pre r k hrem hone => ?_, fun hone => ⟨fun f hf => ?_, fun hlast => ?_⟩⟩⟩
  · have hv : s.Visits g := ⟨hp, hw, hr, ho, hpa, hq, ht⟩
    obtain ⟨hopened, hno, hrun⟩ := s.seVisited_frame
    have hclosed : s.visited.se.opened = none := hopened.trans ho
    have hgoes : s.visited.se.running = true := hrun.trans hr
    refine ⟨fun he => ?_, fun he hmore => ?_, fun he hm => ⟨fun hs hd => ?_, fun hs hd hi => ?_, fun hs hd => ?_⟩⟩
    · have hno : s.visited.se.openNo = s.se.openNo := hno
      rw [hv.exec_opens he, State.openGranule_eq (s := s.visited) g (Nat.lt_trans hq (by omega)), hno]
      rfl
    · rw [hv.exec_skips he, State.scanCheck_visit_goes_on (s := s.visited) hw hmore]
      rfl
    · rw [hv.exec_skips he, s.visited.scanCheck_done hclosed hgoes (.inl ⟨hs, hd⟩),
        s.visited.passEnd_eq (Nat.lt_trans hq (by omega)) hm]
      rfl
    · have hd0 : s.visited.d ≠ 0 := Nat.ne_of_gt hd
      rw [hv.exec_skips he, s.visited.scanCheck_cutover hclosed hgoes hs, if_neg hd0]
      exact congrArg _ (if_pos hi)
    · have hd0 : s.visited.d = 0 := hd
      rw [hv.exec_skips he, s.visited.scanCheck_cutover hclosed hgoes hs, if_pos hd0,
        s.visited.finishScan_eq (Nat.lt_trans hq (by omega)) hm]
      rfl
  · exact (Cursor.step_within he hl hrem hone).trans (Cursor.moveTo_within he _)
  · exact (Cursor.step_exhausted hone).trans (Cursor.moveTo_next hf)
  · exact (Cursor.step_exhausted hone).trans (Cursor.moveTo_last hlast)

/-! ### The visit that ends a rinse pass (R72, R73) -/

/-- A pass end latches PASS_END, and ELIGIBLE where the test is met (R154, R157). -/
theorem State.passEnded_latched (s : State) : s.passEnded.latched .passEnd = true ∧
    (s.passEnded.cvu.record.eligible = true → s.passEnded.latched .eligible = true) := by
  simp only [State.latched, State.passEnded, Alert.index, BitVec.getLsbD_or]
  refine ⟨by simp, fun h => ?_⟩
  simp [h]

/-- The held C that a pass end leaves (R151). -/
def State.endedC (s : State) : Nat :=
  if s.gm.nc = 0 then s.cvu.heldC else min 65535 (s.gm.nc * 1024 / max 1 s.se.passTimer)

theorem State.passEnded_heldC (s : State) : s.passEnded.cvu.heldC = s.endedC := rfl

/-- A mark of the session as an entry of the TXQ. -/
def State.markEntry (s : State) (k : MarkKind) : TxEntry := .frame (.mark s.sc.session k)

/-- The PASS_END mark of the pass that ends (R73). -/
def State.passEndEntry (s : State) : TxEntry :=
  s.markEntry (.passEnd (BitVec.ofNat 16 s.se.passNo) (BitVec.ofNat 24 s.d))

/-- The end of a pass that meets the test with cutover armed enters CUTOVER (R78, R164). -/
theorem State.passEnded_enters (hpa : s.se.paused = false) (hok : eligibleFor s.sc.params s.endedC s.d = true)
    (ha : s.cvu.armed = true) :
    s.passEnded.sc.state = .cutover ∧ s.passEnded.cp.hold = true ∧ s.passEnded.sc.holdTimer = ⟨true, 0⟩ ∧
    s.passEnded.cvu.attempts = s.cvu.attempts + 1 ∧ s.passEnded.se.running = decide (0 < s.d) ∧
    s.passEnded.st.txq = s.st.txq ++
      [s.passEndEntry, s.markEntry (.cutoverBegin (BitVec.ofNat 8 (s.cvu.attempts + 1)))] ++
      (if s.d = 0 then [s.markEntry .cutoverEnd] else []) := by
  simp only [State.endedC] at hok
  simp [State.passEnded, State.passEndEntry, State.markEntry, hpa, ha, hok]

/-- The end of any other pass that is not PAUSED starts a rinse pass, or waits at D 0 (R73). -/
theorem State.passEnded_rinses (hpa : s.se.paused = false)
    (h : ¬ (eligibleFor s.sc.params s.endedC s.d = true ∧ s.cvu.armed = true)) :
    s.passEnded.sc.state = .rinse ∧ s.passEnded.cp.hold = s.cp.hold ∧ s.passEnded.st.txq = s.st.txq ++ [s.passEndEntry] ∧
    s.passEnded.se.running = decide (0 < s.d) ∧ s.passEnded.se.waiting = decide (s.d = 0) ∧
    (0 < s.d → s.passEnded.se.scanIdx = 0 ∧ s.passEnded.se.passTimer = 0 ∧ s.passEnded.gm.nc = 0 ∧
      s.passEnded.gm.nd = 0) := by
  have hc : (eligibleFor s.sc.params s.endedC s.d && s.cvu.armed) = false := by simpa using h
  simp only [State.endedC] at hc
  by_cases hd : 0 < s.d
  · simp [State.passEnded, State.passEndEntry, State.markEntry, hpa, hc, hd, Nat.ne_of_gt hd]
  · have hd := Nat.eq_zero_of_not_pos hd
    rw [hd] at hc
    simp [State.passEnded, State.passEndEntry, State.markEntry, hpa, hc, hd]

/-- Settles O17: the skipped visit by `passEnd_eq`, then field by field. -/
theorem passEndDecides : Obligations.PassEndDecides := by
  unfold Obligations.PassEndDecides
  intro g s hp hrinse hrel hr ho hpa hq hm hspan hidx he
  obtain ⟨hrole, hs⟩ : s.sc.role = .source ∧ s.sc.state = .rinse := by simpa [State.sourceIn] using hrinse
  have hw : s.sweeping = true := by simp [State.sweeping, hrinse, hrel]
  have hv : s.Visits g := ⟨hp, hw, hr, ho, hpa, hq, by simp [hs, hspan, hidx]⟩
  let last : State := { s with out := [], se := { s.se with scanIdx := g + 1 } }
  have hvisited : s.visited = last := by
    rw [State.visited, State.seVisited_scan (by simp [hs]), hidx]
  have hend : exec .visit s = .next last.passEnded := by
    rw [hv.exec_skips he, hvisited, last.scanCheck_done ho hr (.inr ⟨hs, hspan.le⟩),
      last.passEnd_eq (Nat.lt_trans hq (by omega)) hm]
  obtain ⟨hlatch, helig⟩ := last.passEnded_latched
  refine ⟨last.passEnded, hend, rfl, rfl, hlatch, helig, rfl, rfl, rfl, rfl, rfl, rfl, rfl, rfl, ?_, last.passEnded_heldC,
    rfl, rfl, rfl, rfl, rfl, ?_⟩
  · simp [State.passEnded, last, hpa]
  · by_cases hc : eligibleFor s.sc.params last.endedC s.d = true ∧ s.cvu.armed = true
    · exact (if_pos hc).mpr (last.passEnded_enters hpa hc.1 hc.2)
    · exact (if_neg hc).mpr (last.passEnded_rinses hpa hc)

end Sys2Proof.Machine

/-! ## Commands that steer the sweep -/

namespace Sys2Proof.Machine

open Sys2Proof

variable {s : State}

/-! ### PAUSE and RESUME (R76, R77) -/

theorem State.pausable_iff : s.pausable = true ↔
    s.sc.role = .source ∧ (s.sc.state = .sweep ∨ s.sc.state = .rinse) ∧ s.sc.releasePending = false := by
  simp only [State.pausable, State.sourceIn, Bool.and_eq_true, Bool.or_eq_true, beq_iff_eq, Bool.not_eq_true']
  tauto

theorem exec_pause (hp : s.phase = .running) (ht : s.pausable = true) : exec (.pause []) s =
    .next (((s.setOut []).setSe { s.se with paused := true }).finish false false .ok []) :=
  command_if_accepts (c := State.pausable) (f := fun u => u.setSe { u.se with paused := true }) hp (by simp) rfl ht

theorem exec_resume {t : State} (hp : s.phase = .running) (ht : s.pausable = true) (h : (s.setOut []).resumeSweep = t) :
    exec (.resume []) s = .next (t.finish false false .ok []) :=
  h ▸ command_if_accepts (c := State.pausable) (f := State.resumeSweep) hp (by simp) rfl ht

/-- The test at a RESUME or a CUTOVER command rewrites the record and may raise ELIGIBLE, and nothing else (R154, R158, R159). -/
theorem State.cutoverTest_eq (s : State) (point : TestPoint) : s.cutoverTest point =
    let ok := eligibleFor s.sc.params s.cvu.heldC s.d
    { s with
      cvu := { s.cvu with record := { s.cvu.record with
        d := s.d
        h := predictedHold s.d s.cvu.heldC s.sc.params.qAllow
        eligible := ok
        point := point } }
      au := { s.au with latch := if ok then s.au.latch ||| 0x002#12 else s.au.latch } } :=
  State.raiseIf_eq _ _ _

/-- A RESUME without PAUSED changes nothing (R77). -/
theorem State.resumeSweep_unpaused (h : s.se.paused = false) : s.resumeSweep = s := if_neg (by simp [h])

/-- A RESUME with no test deferred and nothing WAITING lets the pass go on (R77). -/
theorem State.resumeSweep_goes_on (h : s.se.paused = true) (hd : s.se.deferred = false) (hw : s.se.waiting = false) :
    s.resumeSweep = s.setSe { s.se with paused := false } := by
  unfold State.resumeSweep
  simp [h, hd, hw]

/-- A RESUME with no test deferred rinses from WAITING, or goes on to wait (R77). -/
theorem State.resumeSweep_waiting (h : s.se.paused = true) (hd : s.se.deferred = false) (hw : s.se.waiting = true) :
    s.resumeSweep = (s.setSe { s.se with paused := false }).rinseOrWait := by
  unfold State.resumeSweep
  simp [h, hd, hw]

/-- The state in which a RESUME that finds DEFERRED has made its test (R77, R158). -/
def State.resumed (s : State) : State :=
  (s.setSe { s.se with paused := false, deferred := false }).cutoverTest .resume

theorem State.resumed_eq (s : State) : s.resumed =
    let ok := eligibleFor s.sc.params s.cvu.heldC s.d
    { s with
      se := { s.se with paused := false, deferred := false }
      cvu := { s.cvu with record := { s.cvu.record with
        d := s.d
        h := predictedHold s.d s.cvu.heldC s.sc.params.qAllow
        eligible := ok
        point := .resume } }
      au := { s.au with latch := if ok then s.au.latch ||| 0x002#12 else s.au.latch } } :=
  State.cutoverTest_eq _ _

theorem State.resumed_st (s : State) : s.resumed.st = s.st := by
  rw [State.resumed_eq]

theorem State.resumeSweep_deferred (h : s.se.paused = true) (hd : s.se.deferred = true) : s.resumeSweep =
    if s.resumed.cvu.record.eligible && s.resumed.cvu.armed then s.resumed.enterCutover else s.resumed.rinseOrWait :=
  (if_pos h).trans (if_pos hd)

/-- A RESUME that finds DEFERRED enters CUTOVER with the test met and cutover armed (R77, R164). -/
theorem State.resumeSweep_enters (h : s.se.paused = true) (hd : s.se.deferred = true)
    (hok : eligibleFor s.sc.params s.cvu.heldC s.d = true) (ha : s.cvu.armed = true) :
    s.resumeSweep = s.resumed.enterCutover := by
  refine (State.resumeSweep_deferred h hd).trans (if_pos ?_)
  rw [State.resumed_eq]
  exact Bool.and_eq_true_iff.2 ⟨hok, ha⟩

/-- A RESUME that finds DEFERRED otherwise rinses or waits (R77). -/
theorem State.resumeSweep_stays (h : s.se.paused = true) (hd : s.se.deferred = true)
    (hc : s.cvu.armed = false ∨ eligibleFor s.sc.params s.cvu.heldC s.d = false) :
    s.resumeSweep = s.resumed.rinseOrWait := by
  refine (State.resumeSweep_deferred h hd).trans (if_neg ?_)
  rw [State.resumed_eq]
  rcases hc with hc | hc <;> simp [hc]

theorem State.rinseOrWait_rinses (h : 0 < s.d) : s.rinseOrWait = s.startRinse := if_pos h

theorem State.rinseOrWait_waits (h : s.d = 0) : s.rinseOrWait = s.setSe { s.se with waiting := true, running := false } :=
  if_neg (by omega)

/-- A SOURCE that WAITS at D 0 stays as it is (R77). -/
theorem State.rinseOrWait_rests (h : s.d = 0) (hw : s.se.waiting = true) (hr : s.se.running = false) : s.rinseOrWait = s := by
  have hse : ({ s.se with waiting := true, running := false } : Se) = s.se := by rw [← hw, ← hr]
  rw [State.rinseOrWait_waits h, hse]
  rfl

/-- Settles O42: the conditions of the two commands, then RESUME by what it finds. -/
theorem pauseAndResume : Obligations.PauseAndResume := by
  unfold Obligations.PauseAndResume
  intro s hp
  let u := s.setOut []
  refine ⟨fun ht => ?_, fun ht => ?_, fun ht hpa => ?_, fun ht hpa hd hw hr => ?_, fun ht hpa hd hw h0 => ?_,
    fun ht hpa hd => ⟨fun hc h0 => ?_, fun hc h0 => ?_, fun ha hok hq hm => ?_⟩⟩
  · have hn : s.pausable = false := eq_false_of_ne_true fun h => ht (State.pausable_iff.1 h)
    exact ⟨command_if_refuses (c := State.pausable) hp (by simp) rfl hn,
      command_if_refuses (c := State.pausable) hp (by simp) rfl hn⟩
  · exact exec_pause hp (State.pausable_iff.2 ht)
  · exact exec_resume hp (State.pausable_iff.2 ht) (State.resumeSweep_unpaused (s := u) hpa)
  · have hgo : u.resumeSweep = u.setSe { u.se with paused := false } := by
      cases hwait : s.se.waiting with
      | true =>
        exact (State.resumeSweep_waiting (s := u) hpa hd hwait).trans (State.rinseOrWait_rests (hw hwait) hwait (hr hwait))
      | false => exact State.resumeSweep_goes_on (s := u) hpa hd hwait
    exact exec_resume hp (State.pausable_iff.2 ht) hgo
  · exact exec_resume hp (State.pausable_iff.2 ht)
      ((State.resumeSweep_waiting (s := u) hpa hd hw).trans (State.rinseOrWait_rinses h0))
  · have hgo : u.resumeSweep = u.resumed.startRinse :=
      (State.resumeSweep_stays (s := u) hpa hd hc).trans (State.rinseOrWait_rinses (u.resumed_eq ▸ h0))
    rw [exec_resume hp (State.pausable_iff.2 ht) hgo, State.resumed_eq]
    rfl
  · have hgo : u.resumeSweep = u.resumed.setSe { u.resumed.se with waiting := true, running := false } :=
      (State.resumeSweep_stays (s := u) hpa hd hc).trans (State.rinseOrWait_waits (u.resumed_eq ▸ h0))
    rw [exec_resume hp (State.pausable_iff.2 ht) hgo, State.resumed_eq]
    rfl
  · have hst : u.resumed.st = s.st := u.resumed_st
    have hgo := State.resumeSweep_enters (s := u) hpa hd hok ha
    rw [u.resumed.enterCutover_eq (by rw [hst]; omega) (by rw [hst, hm])] at hgo
    rw [exec_resume hp (State.pausable_iff.2 ht) hgo, State.resumed_eq]
    rfl

/-! ### SKIP (R63) -/

theorem State.skippable_iff : s.skippable = true ↔
    s.sc.role = .source ∧ s.sc.state = .sweep ∧ s.sc.releasePending = false := by
  simp [State.skippable, State.sourceIn, and_assoc]

section Skip

variable {name : Nat} {move : State → Cursor} {b : Byte}

theorem skipCommand_state (hp : s.phase = .running) (ht : s.skippable = false) :
    skipCommand name move [b] s = .next (s.replying false false .state []) :=
  command_refuses hp (by simp) rfl (if_neg (ne_true_of_eq_false ht))

theorem skipCommand_param (hp : s.phase = .running) (ht : s.skippable = true) (hb : b.toNat ≠ name) :
    skipCommand name move [b] s = .next (s.replying false false .param []) := by
  refine command_refuses hp (by simp) rfl ((if_pos ht).trans ?_)
  rw [field_cons_zero]
  simp [acceptIf, hb]

theorem skipCommand_accepted (hp : s.phase = .running) (ht : s.skippable = true) (hb : b.toNat = name) :
    skipCommand name move [b] s =
      .next (((s.setOut []).skipTo (move (s.setOut []))).finish false false .ok []) := by
  refine command_accepts hp (by simp) rfl ((if_pos ht).trans ?_)
  rw [field_cons_zero]
  simp [acceptIf, hb]

/-- What a SKIP that moves the cursor leaves while the pass goes on. -/
def State.skipped (s : State) (c : Cursor) : State :=
  { s.replying false false .ok [] with se := { s.se with cursor := c } }

variable {c : Cursor}

/-- A SKIP that leaves positions to visit moves the cursor and nothing else (R63). -/
theorem skipCommand_goes_on (hp : s.phase = .running) (ht : s.skippable = true) (hb : b.toNat = name)
    (hd : s.se.cursor.done = false) (hc : move (s.setOut []) = c) (hm : c.done = false) :
    skipCommand name move [b] s = .next (s.skipped c) := by
  let moved := (s.setOut []).setSe { s.se with cursor := c }
  have hstate : s.sc.state = .sweep := (State.skippable_iff.1 ht).2.1
  have hto : (s.setOut []).skipTo c = moved :=
    (if_neg (ne_true_of_eq_false hd)).trans (moved.scanCheck_goes_on (.inl ⟨hstate, hm⟩))
  rw [skipCommand_accepted hp ht hb, hc, hto]
  rfl

/-- A SKIP past the last extent ends pass 0 where it runs with no granule open (R71, R73). -/
theorem skipCommand_ends (hp : s.phase = .running) (ht : s.skippable = true) (hb : b.toNat = name)
    (hd : s.se.cursor.done = false) (hc : move (s.setOut []) = c) (hm : c.done = true) (hq : s.st.txq.length < 60)
    (hmarks : s.st.pendingMarks = []) : skipCommand name move [b] s =
      .next (if s.se.opened = none ∧ s.se.running = true then (s.skipped c).passEnded else s.skipped c) := by
  let moved := (s.setOut []).setSe { s.se with cursor := c }
  have hstate : s.sc.state = .sweep := (State.skippable_iff.1 ht).2.1
  have hto : (s.setOut []).skipTo c = moved.scanCheck := if_neg (ne_true_of_eq_false hd)
  rw [skipCommand_accepted hp ht hb, hc, hto]
  by_cases h : s.se.opened = none ∧ s.se.running = true
  · rw [if_pos h, moved.scanCheck_done h.1 h.2 (.inl ⟨hstate, hm⟩), moved.passEnd_eq hq hmarks]
    rfl
  · have hidle : moved.se.opened.isSome = true ∨ moved.se.running = false := by
      rwa [not_and_or, Bool.not_eq_true, ← Ne, Option.ne_none_iff_isSome] at h
    rw [if_neg h, moved.scanCheck_idle hidle]
    rfl

end Skip

/-- Settles O43: the checks of SKIP, then the cursor by its levels and the pass by the cursor. -/
theorem skipMovesCursor : Obligations.SkipMovesCursor := by
  unfold Obligations.SkipMovesCursor
  intro s hp
  refine ⟨fun b ht => ?_, fun b ht h1 h2 => ?_, fun ht hd => ?_, fun ht hd e he => ⟨fun next hn => ⟨?_, fun hone hl => ?_⟩,
    fun hlast hq hm => ⟨?_, fun hone hl => ?_⟩, fun pre r k inner hrem hr hl => ?_⟩⟩
  · have hn : s.skippable = false := eq_false_of_ne_true fun h => ht (State.skippable_iff.1 h)
    exact ⟨skipCommand_state hp hn, skipCommand_state hp hn⟩
  · refine skipCommand_param hp (State.skippable_iff.2 ht) fun hb => h1 ?_
    exact BitVec.eq_of_toNat_eq hb
  · have hto : ∀ c, (s.setOut []).skipTo c = s.setOut [] := fun c => if_pos hd
    have hskip := State.skippable_iff.2 ht
    exact ⟨(skipCommand_accepted hp hskip rfl).trans (by rw [hto]; rfl),
      (skipCommand_accepted hp hskip rfl).trans (by rw [hto]; rfl)⟩
  · exact skipCommand_goes_on hp (State.skippable_iff.2 ht) rfl hd
      ((Cursor.skipExtent_eq hd).trans (Cursor.moveTo_next hn)) rfl
  · exact skipCommand_goes_on hp (State.skippable_iff.2 ht) rfl hd
      ((Cursor.skipLevel_exhausted hd he hl hone).trans (Cursor.moveTo_next hn)) rfl
  · exact skipCommand_ends hp (State.skippable_iff.2 ht) rfl hd
      ((Cursor.skipExtent_eq hd).trans (Cursor.moveTo_last hlast)) rfl hq hm
  · exact skipCommand_ends hp (State.skippable_iff.2 ht) rfl hd
      ((Cursor.skipLevel_exhausted hd he hl hone).trans (Cursor.moveTo_last hlast)) rfl hq hm
  · exact skipCommand_goes_on hp (State.skippable_iff.2 ht) rfl hd
      ((Cursor.skipLevel_within hd he hl hrem hr).trans (Cursor.moveTo_within he _)) hd

end Sys2Proof.Machine

/-! ## DETACH -/

namespace Sys2Proof.Machine

open Sys2Proof

variable {s : State}

/-! ### The command (R139, R140) -/

/-- What DETACH leaves before its mark: RELEASE_PENDING set, the hold ended, SE stopped with its open record kept (R80, R139). -/
def State.detaching (s : State) : State := { s with
  cp := { s.cp with hold := false }
  se := { s.se with running := false, waiting := false, paused := false, deferred := false }
  sc := { s.sc with releasePending := true, holdTimer := ⟨false, s.sc.holdTimer.count⟩, awaitingReady := false } }

theorem State.beginDetach_eq (s : State) : s.beginDetach = s.detaching.appendMark .release := rfl

/-- A RELEASE that finds no room is counted, captured, and completes the detach (R89, R140). -/
theorem State.dropMark_release (s : State) : s.dropMark .release =
    ((s.count .discarded).capture .discard none (.markKind 6)).leftSource .idle s.st.newestSent :=
  State.detachComplete_eq _

theorem exec_detach {t : State} (hp : s.phase = .running) (ha : s.mgp.armLatch = true) (hs : s.sending = true)
    (hr : s.sc.releasePending = false) (h : (s.setOut []).detaching.appendMark .release = t) :
    exec (.detach []) s = .next (t.finish true false .ok []) := by
  have hc : (s.sending && !s.sc.releasePending) = true := by simp [hs, hr]
  rw [← State.beginDetach_eq] at h
  exact h ▸ command_if_accepts (c := fun u => u.sending && !u.sc.releasePending) (f := State.beginDetach) hp
    (fun _ => ha) rfl hc

/-! ### The send of RELEASE (R86, R140) -/

/-- The head of the TXQ goes out with a send credit free (R86). -/
theorem State.transmit_sends {f : Frame} {rest : List TxEntry} (ht : s.transmitting = true) (hl : s.sc.linkUp = true)
    (hq : s.st.txq = .frame f :: rest) (hc : 0 < s.st.sendCredits) : s.transmit = s.sendHead f := by
  have hsend : s.sendable = some f := by simp [State.sendable, hq, hc, TxEntry.complete]
  simp [State.transmit, ht, hl, hsend]

/-- The mark that takes the freed place leaves all but ST and AU (R89). -/
theorem State.appendPending_frame (s : State) : s.appendPending.gm = s.gm ∧ s.appendPending.mgp = s.mgp ∧
    s.appendPending.out = s.out := by
  unfold State.appendPending
  split
  · exact ⟨rfl, rfl, rfl⟩
  · rw [State.appendTx_eq]
    exact ⟨rfl, rfl, rfl⟩

/-- With no granule open no close is due (R67). -/
theorem State.closeIfDue_closed (h : s.se.opened = none) : s.closeIfDue = s := by
  refine s.closeIfDue_none ?_
  rw [State.closeDue, h]

/-- The head has left the TXQ as a frame, and the oldest pending mark has taken its place (R86, R89, R92). -/
def State.headSent (s : State) (f : Frame) : State :=
  ((s.setSt { s.st with txq := s.st.txq.tail, sendCredits := s.st.sendCredits - 1, keepDue := false }).sendFrame f).appendPending

/-- The send of RELEASE completes the detach (R140). -/
theorem State.sendHead_release (s : State) (n : Byte) : s.sendHead (.mark n .release) =
    (s.headSent (.mark n .release)).leftSource .idle (s.headSent (.mark n .release)).st.newestSent := by
  have hafter : s.sendHead (.mark n .release) = (s.headSent (.mark n .release)).detachComplete.closeIfDue := rfl
  rw [hafter, State.detachComplete_eq]
  exact State.closeIfDue_closed rfl

theorem State.headSent_frame (s : State) (f : Frame) : (s.headSent f).gm = s.gm ∧ (s.headSent f).mgp = s.mgp ∧
    (s.headSent f).out = s.out ++ [.frame f.bytes] :=
  State.appendPending_frame _

/-- Settles O45: the mark by the room it finds, and the send of RELEASE by the end of the session. -/
theorem detach : Obligations.Detach := by
  unfold Obligations.Detach
  refine fun s hp => ⟨fun ha => ⟨fun hn => ?_, fun hs hr => ⟨fun hq hm => ?_, fun hfull hm => ?_, fun hm => ?_⟩⟩,
    fun n rest ht hl _ hq hc => ?_⟩
  · refine command_if_refuses (c := fun u => u.sending && !u.sc.releasePending) hp (fun _ => ha) rfl ?_
    have hc : (s.sending && !s.sc.releasePending) = false := by rcases hn with h | h <;> simp [h]
    exact hc
  · rw [exec_detach hp ha hs hr (((s.setOut []).detaching.appendMark_room .release hq hm).trans (State.appendTx_eq _ _))]
    rfl
  · have hroom : ¬ (s.st.txq.length < 64 ∧ s.st.pendingMarks = []) := fun h =>
      hfull.elim (Nat.not_le.2 h.1) (· h.2)
    rw [exec_detach hp ha hs hr ((s.setOut []).detaching.appendMark_waits .release hroom hm)]
    rfl
  · have hroom : ¬ (s.st.txq.length < 64 ∧ s.st.pendingMarks = []) := fun h => by simp [h.2] at hm
    rw [exec_detach hp ha hs hr (((s.setOut []).detaching.appendMark_dropped .release hroom hm).trans (State.dropMark_release _))]
    rfl
  · have hrun : exec .txqSend s = .next (s.setOut []).transmit := event_running s State.transmit hp
    obtain ⟨hgm, hmgp, hout⟩ := (s.setOut []).headSent_frame (.mark n .release)
    rw [hrun, State.transmit_sends (s := s.setOut []) ht hl hq hc, State.sendHead_release]
    exact ⟨_, rfl, rfl, rfl, rfl, rfl, rfl, rfl, hgm, hmgp, hout⟩

end Sys2Proof.Machine

/-! ## The plan under every operation (R59) -/

namespace Sys2Proof.Machine

open Sys2Proof

variable (s : State)

/-! ### Flags, marks and the ends of a session -/

@[simp] theorem plan_ite {c : Prop} [Decidable c] (t u : State) :
    (if c then t else u).se.plan = if c then t.se.plan else u.se.plan :=
  apply_ite (fun v : State => v.se.plan) c t u

@[simp] theorem plan_raise (a : Alert) : (s.raise a).se.plan = s.se.plan := rfl
@[simp] theorem plan_raiseIf (c : Bool) (a : Alert) : (s.raiseIf c a).se.plan = s.se.plan := by simp [State.raiseIf]
@[simp] theorem plan_count (c : Counter) : (s.count c).se.plan = s.se.plan := rfl
@[simp] theorem plan_capture (k : EventKind) (g : Option Nat) (d : Detail) : (s.capture k g d).se.plan = s.se.plan := rfl
@[simp] theorem plan_emit (o : Output) : (s.emit o).se.plan = s.se.plan := rfl
@[simp] theorem plan_setState (x : SessionState) : (s.setState x).se.plan = s.se.plan := rfl
@[simp] theorem plan_appendTx (e : TxEntry) : (s.appendTx e).se.plan = s.se.plan := by simp [State.appendTx]
@[simp] theorem plan_endSource (x : SessionState) : (s.endSource x).se.plan = s.se.plan := rfl
@[simp] theorem plan_flushSource (x : SessionState) : (s.flushSource x).se.plan = s.se.plan := rfl
@[simp] theorem plan_sourceLinkLoss (r : FaultReason) : (s.sourceLinkLoss r).se.plan = s.se.plan := rfl
@[simp] theorem plan_handshakeLoss : s.handshakeLoss.se.plan = s.se.plan := rfl
@[simp] theorem plan_detachComplete : s.detachComplete.se.plan = s.se.plan := rfl
@[simp] theorem plan_endTarget : s.endTarget.se.plan = s.se.plan := rfl
@[simp] theorem plan_takeoverComplete : s.takeoverComplete.se.plan = s.se.plan := rfl
@[simp] theorem plan_targetFault (r : FaultReason) : (s.targetFault r).se.plan = s.se.plan := rfl
@[simp] theorem plan_releaseHold : s.releaseHold.se.plan = s.se.plan := rfl
@[simp] theorem plan_appendMark (k : MarkKind) : (s.appendMark k).se.plan = s.se.plan := by
  simp [State.appendMark, State.dropMark]
@[simp] theorem plan_appendPending : s.appendPending.se.plan = s.se.plan := by
  unfold State.appendPending
  split <;> simp

/-! ### Passes, visits and closes -/

@[simp] theorem plan_startRinse : s.startRinse.se.plan = s.se.plan := rfl
@[simp] theorem plan_dropNext : s.dropNext.se.plan = s.se.plan := rfl
@[simp] theorem plan_rinseOrWait : s.rinseOrWait.se.plan = s.se.plan := by simp [State.rinseOrWait]
@[simp] theorem plan_finishScan : s.finishScan.se.plan = s.se.plan := by simp [State.finishScan]
@[simp] theorem plan_startScan : s.startScan.se.plan = s.se.plan := by simp [State.startScan]
@[simp] theorem plan_enterCutover : s.enterCutover.se.plan = s.se.plan := by simp [State.enterCutover]
@[simp] theorem plan_cutoverTest (p : TestPoint) : (s.cutoverTest p).se.plan = s.se.plan := by simp [State.cutoverTest]
@[simp] theorem plan_takePassEnd : s.takePassEnd.se.plan = s.se.plan := by simp [State.takePassEnd]
@[simp] theorem plan_passEnd : s.passEnd.se.plan = s.se.plan := by simp [State.passEnd]
@[simp] theorem plan_scanCheck : s.scanCheck.se.plan = s.se.plan := by
  unfold State.scanCheck
  split
  · rfl
  · split <;> simp
@[simp] theorem plan_startPassZero : s.startPassZero.se.plan = s.se.plan := by simp [State.startPassZero, State.zeroCounts]
@[simp] theorem plan_wake : s.wake.se.plan = s.se.plan := by simp [State.wake]
@[simp] theorem plan_syncLost : s.syncLost.se.plan = s.se.plan := by simp [State.syncLost]
@[simp] theorem plan_dirty (g : Nat) : (s.dirty g).se.plan = s.se.plan := by simp [State.dirty]
@[simp] theorem plan_markDirty (g : Nat) : (s.markDirty g).se.plan = s.se.plan := by
  obtain ⟨-, h⟩ | ⟨-, h⟩ | ⟨-, -, h⟩ := s.markDirty_cases g <;> simp [h, State.markStale]
@[simp] theorem plan_openGranule (g : Nat) : (s.openGranule g).se.plan = s.se.plan := by simp [State.openGranule]
@[simp] theorem plan_stepVisit : s.stepVisit.se.plan = s.se.plan := by simp [State.stepVisit]
@[simp] theorem plan_visit : s.visit.se.plan = s.se.plan := by
  unfold State.visit State.visitGranule
  split
  · split
    · split <;> simp
    · rfl
  · rfl
@[simp] theorem plan_closeIfDue : s.closeIfDue.se.plan = s.se.plan := by
  unfold State.closeIfDue State.closeGranule
  split <;> simp
@[simp] theorem plan_holdExpired : s.holdExpired.se.plan = s.se.plan := by simp [State.holdExpired]

/-! ### The receiver -/

/-- What stays out of the receiver's reach holds the plan (R108). -/
theorem plan_of_beyondReceiver {s t : State} (h : t.beyondReceiver = s.beyondReceiver) : t.se.plan = s.se.plan := by
  simp only [State.beyondReceiver, Prod.mk.injEq] at h
  obtain ⟨-, -, -, hse, -⟩ := h
  rw [hse]

@[simp] theorem plan_pump : s.pump.se.plan = s.se.plan := plan_of_beyondReceiver (by simp)
@[simp] theorem plan_clearClean : s.clearClean.se.plan = s.se.plan := plan_of_beyondReceiver (by simp)
@[simp] theorem plan_leaveHead : s.leaveHead.se.plan = s.se.plan := plan_of_beyondReceiver (by simp)
@[simp] theorem plan_decideNeed (g : Nat) : (s.decideNeed g).se.plan = s.se.plan := plan_of_beyondReceiver (by simp)
@[simp] theorem plan_discard (f : Frame) : (s.discard f).se.plan = s.se.plan := rfl
@[simp] theorem plan_discardTarget (f : Frame) : (s.discardTarget f).se.plan = s.se.plan := plan_of_beyondReceiver (by simp)
@[simp] theorem plan_appendReturn (f : Frame) : (s.appendReturn f).se.plan = s.se.plan := rfl
@[simp] theorem plan_raiseFreed : s.raiseFreed.se.plan = s.se.plan := rfl
@[simp] theorem plan_applyGranted (a : ApplyWrite) : (s.applyGranted a).se.plan = s.se.plan := by
  unfold State.applyGranted
  dsimp only
  split <;> simp
@[simp] theorem plan_applyDone (g : Nat) (a : LineAddr) (fail : Bool) : (s.applyDone g a fail).se.plan = s.se.plan := by
  simp [State.applyDone]

/-! ### The ports -/

@[simp] theorem plan_judgeHead : s.judgeHead.se.plan = s.se.plan := by
  obtain ⟨-, -, -, hse, -⟩ := State.judgeFor_frame s.cp.queue.length s
  rw [State.judgeHead, hse]
@[simp] theorem plan_returnCredit : s.returnCredit.se.plan = s.se.plan := rfl
@[simp] theorem plan_grantRecord (r : MemRecord) (q : MemRequest) : (s.grantRecord r q).se.plan = s.se.plan := rfl
@[simp] theorem plan_arrive (r : ClientRequest) : (s.arrive r).se.plan = s.se.plan := by simp [State.arrive]
@[simp] theorem plan_captureNotice (a : LineAddr) (m : ByteMask) (data : LineData) :
    (s.captureNotice a m data).se.plan = s.se.plan := by
  unfold State.captureNotice
  split
  · split <;> simp [State.mirror, State.degrade]
  · rfl
@[simp] theorem plan_failureNotice (a : LineAddr) : (s.failureNotice a).se.plan = s.se.plan := by simp [State.failureNotice]
@[simp] theorem plan_noticeGrant (r : ClientRequest) : (s.noticeGrant r).se.plan = s.se.plan := by
  cases r <;> simp [State.noticeGrant]
@[simp] theorem plan_grantClient (r : ClientRequest) : (s.grantClient r).se.plan = s.se.plan := by simp [State.grantClient]
@[simp] theorem plan_grantOwn (t : Nat) (o : OwnOffer) : (s.grantOwn t o).se.plan = s.se.plan := by
  cases o <;> simp [State.grantOwn, State.grantSweep, State.grantApply]
@[simp] theorem plan_arbitrate : s.arbitrate.se.plan = s.se.plan := by
  unfold State.arbitrate
  split
  · rfl
  · split <;> simp
@[simp] theorem plan_clientResponse (r : MemRecord) (q : MemResponse) : (s.clientResponse r q).se.plan = s.se.plan := by
  unfold State.clientResponse
  dsimp only
  split <;> simp
@[simp] theorem plan_fillLine (a : LineAddr) (o : Byte) (i : BitVec 10) (data : LineData) (poison : Bool) :
    (s.fillLine a o i data poison).se.plan = s.se.plan := by simp [State.fillLine]
@[simp] theorem plan_route (r : MemRecord) (q : MemResponse) : (s.route r q).se.plan = s.se.plan := by
  unfold State.route
  split <;> simp
@[simp] theorem plan_respond (q : MemResponse) : (s.respond q).se.plan = s.se.plan := by
  unfold State.respond
  split <;> simp [State.takeRecord]

/-! ### The transmitter and the answers of the TARGET -/

@[simp] theorem plan_sendFrame (f : Frame) : (s.sendFrame f).se.plan = s.se.plan := rfl
@[simp] theorem plan_sendKeep : s.sendKeep.se.plan = s.se.plan := rfl
@[simp] theorem plan_afterSend (f : Frame) : (s.afterSend f).se.plan = s.se.plan := by
  unfold State.afterSend
  split <;> simp
@[simp] theorem plan_transmit : s.transmit.se.plan = s.se.plan := by
  unfold State.transmit State.sendHead
  split
  · split <;> simp
  · rfl
@[simp] theorem plan_streamDirty (g : Nat) : (s.streamDirty g).se.plan = s.se.plan := by simp [State.streamDirty]
@[simp] theorem plan_dirtyRecords (rs : List MirrorRecord) : (s.dirtyRecords rs).se.plan = s.se.plan := by
  induction rs generalizing s with
  | nil => rfl
  | cons r rs ih => simp [State.dirtyRecords, ih]
@[simp] theorem plan_takeNeed (g : Nat) : (s.takeNeed g).se.plan = s.se.plan := by simp [State.takeNeed]
@[simp] theorem plan_takeLoss (e d : BitVec 16) : (s.takeLoss e d).se.plan = s.se.plan := by simp [State.takeLoss]
@[simp] theorem plan_settle : s.settle.se.plan = s.se.plan := by
  unfold State.settle
  split <;> simp
@[simp] theorem plan_takeCredit (n : Nat) (a : BitVec 16) : (s.takeCredit n a).se.plan = s.se.plan := by
  simp [State.takeCredit]

/-! ### Frames that arrive -/

@[simp] theorem plan_lostFrame (len : Nat) : (s.lostFrame len).se.plan = s.se.plan := by simp [State.lostFrame]
@[simp] theorem plan_restartSilent : s.restartSilent.se.plan = s.se.plan := by simp [State.restartSilent]
@[simp] theorem plan_loadPeer (fs : List WireFence) : (s.loadPeer fs).se.plan = s.se.plan := by
  simp [State.loadPeer, (State.countBadFences_frame _ fs).2.1]
@[simp] theorem plan_takeReply (a : ReplyAnswer) (fs : List WireFence) : (s.takeReply a fs).se.plan = s.se.plan := by
  cases a <;> simp [State.takeReply, State.replyAccepted, State.replyRefused]
@[simp] theorem plan_takeReady (ok : Bool) : (s.takeReady ok).se.plan = s.se.plan := by simp [State.takeReady]
@[simp] theorem plan_sourceFrame (f : Frame) : (s.sourceFrame f).se.plan = s.se.plan := by
  cases f <;> simp [State.sourceFrame, State.takeTaken]
@[simp] theorem plan_targetFrame (f : Frame) : (s.targetFrame f).se.plan = s.se.plan := by
  unfold State.targetFrame
  split
  · rfl
  · split
    · simp [State.enterBuffer, State.bufferOverflow]
    · simp [State.enterBuffer, State.bufferOverflow]
    · split <;> simp [State.helloInListen, State.acceptHello]
    · split <;> simp [State.helloInFault]
    · rfl
@[simp] theorem plan_takeFrame (f : Frame) : (s.takeFrame f).se.plan = s.se.plan := by
  unfold State.takeFrame State.idleFrame
  split
  · simp
  · simp
  · split <;> rfl
@[simp] theorem plan_receive (bs : List Byte) : (s.receive bs).se.plan = s.se.plan := by
  unfold State.receive
  split
  · rfl
  · split
    · simp [State.crcFailed]
    · dsimp only
      split <;> simp [State.malformed]

/-! ### Sends of the return list, expiries and the link -/

@[simp] theorem plan_sendReturn : s.sendReturn.se.plan = s.se.plan := by
  have after : ∀ (u : State) (f : Frame), (u.afterReturn f).se.plan = u.se.plan := fun u f => by
    unfold State.afterReturn
    split <;> simp
  unfold State.sendReturn
  split
  · split <;> simp [after]
  · rfl
@[simp] theorem plan_keepaliveTarget : s.keepaliveTarget.se.plan = s.se.plan := by
  unfold State.keepaliveTarget
  dsimp only
  split <;> simp
@[simp] theorem plan_keepaliveExpired (ready : Bool) : (s.keepaliveExpired ready).se.plan = s.se.plan := by
  simp [State.keepaliveExpired, State.keepaliveSource]
@[simp] theorem plan_targetLinkLoss (r : FaultReason) : (s.targetLinkLoss r).se.plan = s.se.plan := by
  simp [State.targetLinkLoss]
@[simp] theorem plan_silentExpired : s.silentExpired.se.plan = s.se.plan := by simp [State.silentExpired]
@[simp] theorem plan_linkGoesDown : s.linkGoesDown.se.plan = s.se.plan := by simp [State.linkGoesDown]

/-! ### Management commands and resets -/

@[simp] theorem plan_replaceParams (role : Role) (p : Params) : (s.replaceParams role p).se.plan = s.se.plan := by
  simp [State.replaceParams]
@[simp] theorem plan_openSession : s.openSession.se.plan = s.se.plan := by simp [State.openSession]
@[simp] theorem plan_beginListen : s.beginListen.se.plan = s.se.plan := by simp [State.beginListen]
@[simp] theorem plan_deferredTest : s.deferredTest.se.plan = s.se.plan := by simp [State.deferredTest]
@[simp] theorem plan_resumeSweep : s.resumeSweep.se.plan = s.se.plan := by
  unfold State.resumeSweep
  split
  · dsimp only
    split
    · simp
    · split <;> simp
  · rfl
@[simp] theorem plan_skipTo (c : Cursor) : (s.skipTo c).se.plan = s.se.plan := by simp [State.skipTo]
@[simp] theorem plan_armCutover : s.armCutover.se.plan = s.se.plan := by simp [State.armCutover, State.immediateTest]
@[simp] theorem plan_beginDetach : s.beginDetach.se.plan = s.se.plan := by simp [State.beginDetach, Se.stopped]
@[simp] theorem plan_beginTakeover : s.beginTakeover.se.plan = s.se.plan := by
  unfold State.beginTakeover
  dsimp only
  split <;> simp
@[simp] theorem plan_abortSession : s.abortSession.se.plan = s.se.plan := by
  unfold State.abortSession
  split
  · rfl
  · split <;> simp
@[simp] theorem plan_commandReset : s.commandReset.se.plan = s.se.plan := rfl
@[simp] theorem plan_release (straps : BitVec 3) : (s.release straps).se.plan = s.se.plan := rfl

/-- An event whose meaning keeps the plan. -/
theorem plan_event {s t : State} {f : State → State} (hf : ∀ u, (f u).se.plan = u.se.plan) (h : event s f = .next t) :
    t.se.plan = s.se.plan := by
  cases h
  simp [hf]

/-- What a command that is accepted leaves of the plan. -/
def CommandResult.keepsPlan (s : State) : CommandResult → Prop
  | .accept t _ => t.se.plan = s.se.plan
  | .refuse _ => True

theorem CommandResult.keepsPlan_acceptIf {c : Bool} {code : ResultCode} {s t : State} (h : t.se.plan = s.se.plan) :
    (acceptIf c code t).keepsPlan s := by
  cases c
  · trivial
  · exact h

/-- A command whose acceptance keeps the plan. -/
theorem plan_command {s t : State} {guarded enable : Bool} {n : Nat} {ps : List Byte} {body : State → CommandResult}
    (h : command guarded n enable ps body s = .next t) (hb : ∀ u, u.sc.state = s.sc.state → (body u).keepsPlan u) :
    t.se.plan = s.se.plan := by
  obtain ⟨-, rfl⟩ | ⟨c, rfl⟩ | ⟨u, data, hu, rfl⟩ := command_cases s h
  · rfl
  · rfl
  · have hk := hb (s.setOut []) rfl
    rw [hu] at hk
    exact hk

theorem plan_skipCommand {s t : State} {name : Nat} {move : State → Cursor} {ps : List Byte}
    (h : skipCommand name move ps s = .next t) : t.se.plan = s.se.plan := by
  refine plan_command h fun u _ => ?_
  split
  · exact CommandResult.keepsPlan_acceptIf (plan_skipTo u _)
  · trivial

/-- Every command but POWER_ON and LINE_RESET keeps the plan; LOAD_EXTENT and PLAN_CLEAR keep it outside IDLE (R59). -/
theorem plan_exec {c : Instr} {s t : State} (h : exec c s = .next t)
    (hc : s.sc.state ≠ .idle ∨ ∀ ps, c ≠ .loadExtent ps ∧ c ≠ .planClear ps) (hp : c ≠ .powerOn) (hl : c ≠ .lineReset) :
    t.se.plan = s.se.plan := by
  have same : ∀ u : State, u.se.plan = u.se.plan := fun _ => rfl
  cases c with
  | clientRequestArrival r => exact plan_event (fun u => plan_arrive u r) h
  | arbitration => exact plan_event plan_arbitrate h
  | memoryResponse q => exact plan_event (fun u => plan_respond u q) h
  | visit => exact plan_event plan_visit h
  | granuleClose => exact plan_event plan_closeIfDue h
  | txqSend => exact plan_event plan_transmit h
  | returnListSend => exact plan_event plan_sendReturn h
  | keepaliveExpiry ready => exact plan_event (fun u => plan_keepaliveExpired u ready) h
  | silentLimitExpiry => exact plan_event plan_silentExpired h
  | handshakeExpiry => exact plan_event (f := fun u => if u.sourceIn .handshake then u.handshakeLoss else u) (fun u => by simp) h
  | holdTimerExpiry =>
    exact plan_event (f := fun u => if u.sourceIn .cutover && u.sc.holdTimer.running then u.holdExpired else u)
      (fun u => by simp) h
  | linkUp => exact plan_event (f := fun u => u.setSc { u.sc with linkUp := true }) (fun _ => rfl) h
  | linkDown => exact plan_event plan_linkGoesDown h
  | frameArrival bs => exact plan_event (fun u => plan_receive u bs) h
  | status ps => exact plan_command h fun u _ => same u
  | arm ps => exact plan_command h fun u _ => same u
  | disarm ps => exact plan_command h fun u _ => same u
  | setSession ps =>
    refine plan_command h fun u _ => ?_
    split
    · split
      · exact plan_replaceParams u _ _
      · trivial
    · trivial
  | loadExtent ps =>
    obtain hs | hn := hc
    · refine plan_command h fun u hu => ?_
      rw [if_neg (by simp [State.isIdle, hu, hs])]
      trivial
    · exact absurd rfl (hn ps).1
  | planClear ps =>
    obtain hs | hn := hc
    · refine plan_command h fun u hu => ?_
      rw [show u.isIdle = false by simp [State.isIdle, hu, hs]]
      trivial
    · exact absurd rfl (hn ps).2
  | setFence flock ps =>
    refine plan_command h fun u _ => ?_
    split
    · trivial
    · split
      · trivial
      · exact CommandResult.keepsPlan_acceptIf rfl
  | lockFences ps =>
    refine plan_command h fun u _ => ?_
    split
    · trivial
    · split
      · trivial
      · exact same u
  | start ps => exact plan_command h fun u _ => CommandResult.keepsPlan_acceptIf (plan_openSession u)
  | listen ps => exact plan_command h fun u _ => CommandResult.keepsPlan_acceptIf (plan_beginListen u)
  | pause ps => exact plan_command h fun u _ => CommandResult.keepsPlan_acceptIf rfl
  | resume ps => exact plan_command h fun u _ => CommandResult.keepsPlan_acceptIf (plan_resumeSweep u)
  | skipLevel ps => exact plan_skipCommand h
  | skipExtent ps => exact plan_skipCommand h
  | cutover ps => exact plan_command h fun u _ => CommandResult.keepsPlan_acceptIf (plan_armCutover u)
  | detach ps => exact plan_command h fun u _ => CommandResult.keepsPlan_acceptIf (plan_beginDetach u)
  | takeover ps => exact plan_command h fun u _ => CommandResult.keepsPlan_acceptIf (plan_beginTakeover u)
  | abort ps => exact plan_command h fun u _ => plan_abortSession u
  | setShare ps => exact plan_command h fun u _ => same u
  | readCursor ps => exact plan_command h fun u _ => same u
  | readPass ps => exact plan_command h fun u _ => same u
  | readMap ps =>
    refine plan_command h fun u _ => ?_
    split
    · exact same u
    · trivial
  | readEvent ps => exact plan_command h fun u _ => same u
  | ackAlerts ps => exact plan_command h fun u _ => same u
  | setMask ps => exact plan_command h fun u _ => same u
  | clearCounters ps => exact plan_command h fun u _ => same u
  | resetEnable ps => exact plan_command h fun u _ => same u
  | reset ps => exact plan_command h fun u _ => CommandResult.keepsPlan_acceptIf (plan_commandReset u)
  | unknown b ps => exact plan_event (f := (·.finish false false .unknown [])) (fun _ => rfl) h
  | powerOn => exact absurd rfl hp
  | powerOnRelease straps =>
    cases h
    simp
  | lineReset => exact absurd rfl hl
  | lineResetRelease straps =>
    cases h
    simp

/-! ### LOAD_EXTENT and PLAN_CLEAR (R59) -/

/-- What LOAD_EXTENT asks of its position and its record (R58, R59). -/
theorem loadable_iff {ps : List Byte} {len : Nat} : loadable ps len = true ↔
    fromBytes (ps.take 1) ≤ 15 ∧ fromBytes (ps.take 1) ≤ len ∧ levelCountAt ps 1 ≤ 3 ∧ (extentAt ps 1).first < 1048576 ∧
    ∀ l ∈ (extentAt ps 1).levels, l.stride < 1048576 := by
  have hfield : field ps 0 1 = fromBytes (ps.take 1) := rfl
  simp only [loadable, extentInRange, hfield, Bool.and_eq_true, decide_eq_true_eq, List.all_eq_true, and_assoc]
  exact and_congr_left' Nat.lt_succ_iff

section Plan

variable {s : State} {ps : List Byte}

theorem exec_planClear_state (hp : s.phase = .running) (hs : s.sc.state ≠ .idle) :
    exec (.planClear []) s = .next (s.replying false false .state []) :=
  command_if_refuses (c := State.isIdle) hp (by simp) rfl (beq_false_of_ne hs)

theorem exec_planClear (hp : s.phase = .running) (hs : s.sc.state = .idle) : exec (.planClear []) s =
    .next { s.replying false false .ok [] with se := { s.se with plan := [] } } :=
  command_if_accepts (c := State.isIdle) (f := fun u => u.setSe { u.se with plan := [] }) hp (by simp) rfl
    (beq_iff_eq.2 hs)

theorem exec_loadExtent_state (hp : s.phase = .running) (hn : ps.length = 20) (hs : s.sc.state ≠ .idle) :
    exec (.loadExtent ps) s = .next (s.replying false false .state []) :=
  command_refuses hp (by simp) hn (if_neg (ne_true_of_eq_false (beq_false_of_ne hs)))

theorem exec_loadExtent_param (hp : s.phase = .running) (hn : ps.length = 20) (hs : s.sc.state = .idle)
    (h : loadable ps s.se.plan.length = false) : exec (.loadExtent ps) s = .next (s.replying false false .param []) :=
  command_refuses hp (by simp) hn ((if_pos (beq_iff_eq.2 hs)).trans (if_neg (ne_true_of_eq_false h)))

theorem exec_loadExtent (hp : s.phase = .running) (hn : ps.length = 20) (hs : s.sc.state = .idle)
    (h : loadable ps s.se.plan.length = true) : exec (.loadExtent ps) s = .next { s.replying false false .ok [] with
      se := { s.se with plan := putExtent s.se.plan (fromBytes (ps.take 1)) (extentAt ps 1) } } :=
  command_accepts (guarded := false) (data := [])
    (u := (s.setOut []).setSe { s.se with plan := putExtent s.se.plan (field ps 0 1) (extentAt ps 1) }) hp (by simp) hn
    ((if_pos (beq_iff_eq.2 hs)).trans (if_pos h))

end Plan

/-- Settles O38: the checks of the two commands, the record at its position, and `plan_exec` for every other command. -/
theorem planCommands : Obligations.PlanCommands := by
  unfold Obligations.PlanCommands
  refine ⟨fun ps s hp hn => ⟨fun hs => ?_, fun hs => ⟨fun h => ?_, fun h1 h2 h3 h4 h5 => ?_, fun h1 h2 h3 h4 h5 => ?_, ?_⟩⟩,
    fun c s t h => plan_exec h⟩
  · exact ⟨exec_loadExtent_state hp hn hs, exec_planClear_state hp hs⟩
  · refine exec_loadExtent_param hp hn hs (eq_false_of_ne_true fun hl => ?_)
    obtain ⟨h1, h2, h3, h4, h5⟩ := loadable_iff.1 hl
    obtain h | h | h | h | ⟨l, hl, h⟩ := h
    · omega
    · omega
    · omega
    · omega
    · exact Nat.not_lt.2 h (h5 l hl)
  · rw [exec_loadExtent hp hn hs (loadable_iff.2 ⟨h1, h2.le, h3, h4, h5⟩), putExtent, if_pos h2]
  · rw [exec_loadExtent hp hn hs (loadable_iff.2 ⟨h1, h2.le, h3, h4, h5⟩), putExtent, if_neg (Nat.not_lt.2 h2.ge)]
  · exact exec_planClear hp hs

end Sys2Proof.Machine

/-! ## The send of the TXQ head -/

namespace Sys2Proof.Machine

open Sys2Proof

variable {s : State} {e : TxEntry} {f : Frame} {rest : List TxEntry}

/-! ### The send itself (R86, R89, R92) -/

/-- A complete head goes out with a send credit free (R86). -/
theorem State.transmit_complete (ht : s.transmitting = true) (hl : s.sc.linkUp = true) (hq : s.st.txq = e :: rest)
    (he : e.complete = some f) (hc : 0 < s.st.sendCredits) : s.transmit = s.sendHead f := by
  have hsend : s.sendable = some f := by simp [State.sendable, hq, hc, he]
  simp [State.transmit, ht, hl, hsend]

/-- A head that is not complete, or has no send credit, does not go out (R86, R87). -/
theorem State.sendable_none (h : s.st.sendCredits = 0 ∨ s.st.txq.head?.bind TxEntry.complete = none) : s.sendable = none := by
  unfold State.sendable
  split
  · rename_i heq
    obtain hc | hh := h
    · simp [hc]
    · simp only [heq, List.head?_cons, Option.bind_some] at hh
      simp [hh]
  · rfl

/-- The oldest pending mark takes the freed place, as the 63rd entry with TXQ_HIGH (R89, R90). -/
theorem State.appendPending_eq (s : State) : s.appendPending = { s with
    st := { s.st with
      txq := s.st.txq ++ (s.st.pendingMarks.take 1).map fun m => .frame (.mark m.session m.kind)
      pendingMarks := s.st.pendingMarks.tail }
    au := { s.au with
      latch := if s.st.pendingMarks ≠ [] ∧ s.st.txq.length = 62 then s.au.latch ||| 0x080#12 else s.au.latch } } := by
  unfold State.appendPending
  cases hm : s.st.pendingMarks with
  | nil =>
    simp only [List.take_nil, List.map_nil, List.append_nil, List.tail_nil, ne_eq, not_true_eq_false, false_and, if_false]
    rw [← hm]
  | cons m ms =>
    have hne : (m :: ms ≠ [] ∧ s.st.txq.length = 62) = (s.st.txq.length = 62) := by simp
    dsimp only
    simp only [State.appendTx_eq, hne]
    rfl

/-- The newest mirror sent after the send of a frame (R93). -/
def Frame.newestSent (before : Option (BitVec 16)) : Frame → Option (BitVec 16)
  | .mirror q _ _ _ => some q
  | _ => before

/-- Whether a READY is awaited after the send of a frame (R166). -/
def Frame.awaitingReady (before holding : Bool) : Frame → Bool
  | .mark _ .cutoverEnd => before || holding
  | _ => before

/-- A send other than that of RELEASE tells SC and ST of a MIRROR, and of a CUTOVER_END in a hold (R86, R93, R166). -/
theorem State.afterSend_eq (s : State) (h : ∀ n, f ≠ .mark n .release) : s.afterSend f = { s with
    st := { s.st with newestSent := f.newestSent s.st.newestSent }
    sc := { s.sc with awaitingReady := f.awaitingReady s.sc.awaitingReady s.holding } } := by
  cases f with
  | mark n k =>
    cases k with
    | release => exact absurd rfl (h n)
    | cutoverEnd =>
      simp only [State.afterSend, Frame.awaitingReady]
      cases hh : s.holding with
      | true =>
        rw [Bool.or_true]
        exact if_pos hh
      | false =>
        rw [Bool.or_false]
        exact if_neg (ne_true_of_eq_false hh)
    | _ => rfl
  | _ => rfl

/-- The state after the send of the TXQ head, before a close that it makes due. -/
def State.txqSent (s : State) (f : Frame) (rest : List TxEntry) : State := { s with
  out := [.frame f.bytes]
  st := { s.st with
    txq := rest ++ (s.st.pendingMarks.take 1).map fun m => .frame (.mark m.session m.kind)
    pendingMarks := s.st.pendingMarks.tail
    sendCredits := s.st.sendCredits - 1
    newestSent := f.newestSent s.st.newestSent
    keepalive := ⟨true, 0⟩
    keepDue := false }
  sc := { s.sc with awaitingReady := f.awaitingReady s.sc.awaitingReady s.holding }
  au := { s.au with
    latch := if s.st.pendingMarks ≠ [] ∧ rest.length = 62 then s.au.latch ||| 0x080#12 else s.au.latch } }

/-- The head leaves, the oldest pending mark takes its place, and the send is told (R86, R89). -/
theorem State.afterSend_headSent (hq : s.st.txq = e :: rest) (hk : s.st.keepalive.running = true)
    (hf : ∀ n, f ≠ .mark n .release) : ((s.setOut []).headSent f).afterSend f = s.txqSent f rest := by
  have hkeep : s.st.keepalive.restartIfRunning = ⟨true, 0⟩ := if_pos hk
  have htail : s.st.txq.tail = rest := congrArg List.tail hq
  rw [State.afterSend_eq _ hf, State.headSent, State.appendPending_eq, State.txqSent, ← hkeep, ← htail]
  rfl

/-- TXQ_SEND with a complete head and a send credit free: the send, then the close that the place makes due (R67, R86). -/
theorem exec_txqSend (hp : s.phase = .running) (ht : s.transmitting = true) (hl : s.sc.linkUp = true)
    (hq : s.st.txq = e :: rest) (he : e.complete = some f) (hc : 0 < s.st.sendCredits) (hk : s.st.keepalive.running = true)
    (hf : ∀ n, f ≠ .mark n .release) : exec .txqSend s = .next (s.txqSent f rest).closeIfDue := by
  have hrun : exec .txqSend s = .next (s.setOut []).transmit := event_running s State.transmit hp
  have hsent : (s.setOut []).sendHead f = (((s.setOut []).headSent f).afterSend f).closeIfDue := rfl
  rw [hrun, State.transmit_complete (s := s.setOut []) ht hl hq he hc, hsent, State.afterSend_headSent hq hk hf]

/-- With more lines to read, or the TXQ at the ceiling, the place makes no close due (R67, R69). -/
theorem State.closeDue_txqSent_none (h : ∀ r, s.se.opened = some r → r.nextLine < 1024 ∨ 48 ≤ rest.length) :
    (s.txqSent f rest).closeDue = none := by
  unfold State.closeDue
  split
  · rename_i r ho
    have hnot : ¬ (Config.linesPerGranule ≤ r.nextLine ∧ (s.txqSent f rest).st.txq.length < 48) := by
      simp only [State.txqSent, List.length_append, Config.linesPerGranule]
      have := h r ho
      omega
    refine if_neg fun hc => hnot ?_
    simp only [Bool.and_eq_true, decide_eq_true_eq, State.belowCeiling_iff] at hc
    exact ⟨hc.1.2, hc.2⟩
  · rfl

/-- Settles O18: the send alone, or the close that it makes due with the end of the pass or the round. -/
theorem txqSend : Obligations.TxqSend := by
  unfold Obligations.TxqSend
  intro e f rest s hp ht hl hq he hc hk hf
  dsimp only
  have hrun := exec_txqSend hp ht hl hq he hc hk hf
  refine ⟨fun _ ho => ?_, fun r ho hline hroom hmarks hw hentry => ?_⟩
  · rw [hrun, State.closeIfDue_none _ (State.closeDue_txqSent_none ho)]
    rfl
  let closed := (s.txqSent f rest).granuleClosed r
  have htxq : (s.txqSent f rest).st.txq = rest := by simp [State.txqSent, hmarks]
  have hlen : closed.st.txq.length < 60 := by
    simp only [closed, State.granuleClosed, htxq, List.length_append, List.length_singleton]
    omega
  have hpending : closed.st.pendingMarks = [] := congrArg List.tail hmarks
  have hclosed : closed = { s.txqSent f rest with
      gm := s.gmClosed r
      se := { s.se with opened := none }
      st := { (s.txqSent f rest).st with txq := rest ++ [.frame (.close (BitVec.ofNat 24 r.granule) r.openNo)] } } := by
    simp only [closed, State.granuleClosed, htxq]
    rfl
  have hbelow : (s.txqSent f rest).st.txq.length < 48 := htxq.symm ▸ hroom
  rw [hrun, State.closeIfDue_taken (s := s.txqSent f rest) hw ho hline hbelow hentry]
  refine ⟨fun h => ?_, fun h hr => ?_, fun hs hr => ?_⟩
  · rw [closed.scanCheck_goes_on h, hclosed]
    rfl
  · rw [closed.scanCheck_done rfl hr h, closed.passEnd_eq hlen hpending, hclosed]
    rfl
  · rw [State.scanCheck_cutover_eq (s := closed) hs rfl hr (Nat.lt_trans hlen (by omega)) hpending, hclosed]
    simp only [List.append_assoc, List.cons_append, List.nil_append]
    rfl

end Sys2Proof.Machine

/-! ## The keepalive and the return list -/

namespace Sys2Proof.Machine

open Sys2Proof

variable {s : State}

/-! ### The keepalive of a SOURCE (R87, R92) -/

/-- A KEEP goes out and the keepalive starts again (R92). -/
theorem State.sendKeep_eq (hk : s.st.keepalive.running = true) : s.sendKeep = { s with
    out := s.out ++ [.frame Frame.keep.bytes]
    st := { s.st with keepalive := ⟨true, 0⟩, keepDue := false } } := by
  have hkeep : s.st.keepalive.restartIfRunning = ⟨true, 0⟩ := if_pos hk
  rw [← hkeep]
  rfl

/-- A timer that runs and has come to a count (R92). -/
theorem Timer.standing_at (t : Timer) (h : t.running = true) (n : Nat) : ({ t with count := n } : Timer) = ⟨true, n⟩ :=
  congrArg (Timer.mk · n) h

theorem exec_keepaliveExpiry (hp : s.phase = .running) (hk : s.st.keepalive.running = true) (ready : Bool) :
    exec (.keepaliveExpiry ready) s = .next (if s.transmitting then (s.setOut []).keepaliveSource ready
      else if s.receiving then (s.setOut []).keepaliveTarget else s.setOut []) := by
  have hrun : exec (.keepaliveExpiry ready) s = .next ((s.setOut []).keepaliveExpired ready) :=
    event_running s (State.keepaliveExpired · ready) hp
  rw [hrun]
  exact congrArg _ (if_pos hk)

/-- A due KEEP goes out where the TXQ head cannot (R87, R92). -/
theorem exec_txqSend_keep (hp : s.phase = .running) (ht : s.transmitting = true) (hl : s.sc.linkUp = true)
    (hn : s.sendable = none) (hd : s.st.keepDue = true) : exec .txqSend s = .next (s.setOut []).sendKeep := by
  have hrun : exec .txqSend s = .next (s.setOut []).transmit := event_running s State.transmit hp
  have ht' : (s.setOut []).transmitting = true := ht
  have hn' : (s.setOut []).sendable = none := hn
  rw [hrun]
  simp [State.transmit, ht', hl, hn', hd]

/-! ### The return list of a TARGET (R100, R117) -/

/-- A TARGET that takes the copy stream is no SOURCE. -/
theorem State.receiving_not_transmitting (h : s.receiving = true) : s.transmitting = false := by
  refine eq_false_of_ne_true fun ht => ?_
  have hrole := (s.receiving_session h).1
  rw [(s.transmitting_session ht).1] at hrole
  cases hrole

/-- A frame at the head has been processed, or there is none (R108). -/
theorem State.unprocessed_head (h : s.sr.head = none → s.sr.buffer = []) : s.unprocessed = none := by
  cases hh : s.sr.head with
  | none => exact State.unprocessed_none (h hh)
  | some x => simp [State.unprocessed, hh]

/-- Nothing is claimed where no TAKEN waits and, on a TARGET that takes the copy stream, no failed apply, answer or CREDIT (R117). -/
theorem State.placeable_rests (ht : s.sc.takenWaiting = false) (h : s.receiving = true →
    s.sr.failedApply = [] ∧ s.sr.creditDue = false ∧ (s.sr.head = none ∨ ∃ w, s.sr.head = some ⟨[], w⟩)) :
    s.placeable = none := by
  have hclaim : s.firstClaim = none := by
    by_cases hr : s.receiving = true
    · obtain ⟨hf, hc, hh | ⟨w, hh⟩⟩ := h hr
      · simp [State.firstClaim, ht, hf, hc, hh]
      · simp [State.firstClaim, ht, hf, hc, hh]
    · simp [State.firstClaim, ht, hr]
  simp [State.placeable, hclaim]

theorem State.firstClaim_taken (ht : s.sc.takenWaiting = true) : s.firstClaim = some .taken := if_pos ht

theorem State.firstClaim_failed {g : Nat} {gs : List Nat} (hr : s.receiving = true) (ht : s.sc.takenWaiting = false)
    (hf : s.sr.failedApply = g :: gs) : s.firstClaim = some (.failed g) := by
  simp [State.firstClaim, ht, hr, hf]

theorem State.firstClaim_head {a : Answer} {as : List Answer} {w : Option ApplyWrite} (hr : s.receiving = true)
    (ht : s.sc.takenWaiting = false) (hf : s.sr.failedApply = []) (hh : s.sr.head = some ⟨a :: as, w⟩) :
    s.firstClaim = some (.answer a) := by
  simp [State.firstClaim, ht, hr, hf, hh]

theorem State.firstClaim_credit (hr : s.receiving = true) (ht : s.sc.takenWaiting = false) (hf : s.sr.failedApply = [])
    (hh : s.sr.head = none ∨ ∃ w, s.sr.head = some ⟨[], w⟩) (hc : s.sr.creditDue = true) : s.firstClaim = some .credit := by
  obtain hh | ⟨w, hh⟩ := hh
  · simp [State.firstClaim, ht, hr, hf, hh, hc]
  · simp [State.firstClaim, ht, hr, hf, hh, hc]

/-- A LOSS takes its place, and its mirror's apply write is then on offer (R112, R114). -/
theorem State.appendClaim_loss {e d : BitVec 16} {w : ApplyWrite} (hh : s.sr.head = some ⟨[.loss e d], some w⟩) :
    s.appendClaim (.answer (.loss e d)) = { s with
      st := { s.st with returnList := s.st.returnList ++ [.loss e d] }
      sr := { s.sr with head := some ⟨[], some w⟩ }
      mgp := { s.mgp with
        counters := { s.mgp.counters with losses := min 16777215 (s.mgp.counters.losses + 1) } } } := by
  let placed := (s.appendReturn (.loss e d)).count .losses
  have hhead : placed.sr.head = some ⟨[.loss e d], some w⟩ := hh
  have happend : s.appendClaim (.answer (.loss e d)) = placed.answered := rfl
  rw [happend, State.answered, hhead]
  rfl

/-- The oldest frame of the return list has gone out (R100). -/
def State.returnSent (s : State) (f : Frame) (rest : List Frame) : State := { s with
  out := [.frame f.bytes]
  st := { s.st with returnList := rest, keepalive := s.st.keepalive.restartIfRunning } }

/-- RETURN_LIST_SEND of a frame other than TAKEN: the send, then the claims that the place lets in (R100, R117). -/
theorem exec_returnListSend {f : Frame} {rest : List Frame} (hp : s.phase = .running) (hr : s.sc.role = .target)
    (hl : s.sc.linkUp = true) (hq : s.st.returnList = f :: rest) (hf : ∀ n, f ≠ .taken n) :
    exec .returnListSend s = .next (s.returnSent f rest).pump := by
  have hrun : exec .returnListSend s = .next (s.setOut []).sendReturn := event_running s State.sendReturn hp
  have hafter : ∀ u : State, u.afterReturn f = u.pump := fun u => by
    cases f with
    | taken n => exact absurd rfl (hf n)
    | _ => rfl
  have hq' : (s.setOut []).st.returnList = f :: rest := hq
  rw [hrun, State.sendReturn, if_pos ⟨hr, hl⟩, hq']
  dsimp only
  rw [hafter]
  rfl

/-- A claim that takes the only place leaves nothing to do (R108, R117). -/
theorem State.pump_fills {c : Claim} {t : State} (hl : s.st.returnList.length = 15) (hc : s.firstClaim = some c)
    (ht : s.appendClaim c = t) (hfull : t.st.returnList.length = 16) (hh : t.sr.head = none → t.sr.buffer = []) :
    s.pump = t := by
  subst ht
  have hplace : s.placeable = some c := (if_pos (by simp [hl, Config.returnPlaces])).trans hc
  exact State.pump_one hplace (State.placeable_full hfull.ge) (State.unprocessed_head hh)

/-- Settles O19: the expiry by the role, and a send of the return list by the first claim that waits. -/
theorem keepaliveAndReturnList : Obligations.KeepaliveAndReturnList := by
  unfold Obligations.KeepaliveAndReturnList
  refine ⟨fun s hp ht hk => ⟨?_, ?_, fun hl hd hn => ?_⟩, fun s hp hr hk => ⟨fun ready hq hf htw hb hh => ?_,
    fun f rest hq hl hf hb => ?_⟩, fun s hp hs hl hk htw hb f rest hq hf => ?_⟩
  · rw [exec_keepaliveExpiry hp hk, if_pos ht]
    exact congrArg _ (State.sendKeep_eq (s := s.setOut []) hk)
  · have hreached := s.st.keepalive.standing_at hk s.sc.params.ki
    rw [exec_keepaliveExpiry hp hk, if_pos ht, ← hreached]
    rfl
  · rw [exec_txqSend_keep hp ht hl (State.sendable_none hn) hd, State.sendKeep_eq (s := s.setOut []) hk]
    rfl
  · let due : State := { s with
      out := []
      st := { s.st with keepalive := { s.st.keepalive with count := s.sc.params.ki } }
      sr := { s.sr with creditDue := true } }
    have hdue : (s.setOut []).keepaliveTarget = due.pump := if_pos hq
    have hroom : due.st.returnList.length < 16 := by simp [due, hq]
    have hreached := s.st.keepalive.standing_at hk s.sc.params.ki
    have hfirst : [Frame.credit (BitVec.ofNat 8 s.sr.freed) s.sr.lastGranted] =
        s.st.returnList ++ [.credit (BitVec.ofNat 8 s.sr.freed) s.sr.lastGranted] := by rw [hq, List.nil_append]
    rw [exec_keepaliveExpiry hp hk, if_neg (ne_true_of_eq_false (State.receiving_not_transmitting hr)), if_pos hr, hdue,
      State.pump_credit (s := due) hr htw hf hb hh rfl hroom, ← hreached, hfirst]
    rfl
  · let u : State := { s with
      out := [.frame f.bytes]
      st := { s.st with keepalive := ⟨true, 0⟩, returnList := rest } }
    have hkeep : s.st.keepalive.restartIfRunning = ⟨true, 0⟩ := if_pos hk
    have hrun : exec .returnListSend s = .next u.pump := by
      rw [exec_returnListSend hp (s.receiving_role hr) hl hq hf, State.returnSent, hkeep]
    have hru : u.receiving = true := hr
    dsimp only
    rw [hrun]
    refine ⟨fun _ hfa htw hcd hh => ?_, fun hlen => ⟨fun htw => ?_, fun g gs hfa htw => ?_, fun e d w htw hfa hh => ?_,
      fun htw hfa hcd hh => ?_⟩⟩
    · exact congrArg _ (u.pump_settled (State.placeable_rests htw fun _ => ⟨hfa, hcd, hh⟩) (State.unprocessed_head hb))
    · exact congrArg _ (State.pump_fills hlen (State.firstClaim_taken htw) rfl (by simp [hlen]) hb)
    · refine congrArg _ (State.pump_fills hlen (State.firstClaim_failed hru htw hfa) ?_ (by simp [hlen]) hb)
      have htail : gs = s.sr.failedApply.tail := by rw [hfa, List.tail_cons]
      rw [htail]
      rfl
    · exact congrArg _ (State.pump_fills hlen (State.firstClaim_head hru htw hfa hh) (State.appendClaim_loss (s := u) hh)
        (by simp [hlen]) (by simp))
    · exact congrArg _ (State.pump_fills hlen (State.firstClaim_credit hru htw hfa hh hcd) rfl (by simp [hlen]) hb)
  · obtain ⟨hrole, hnot⟩ : s.sc.role = .target ∧ s.receiving = false := by
      simp only [State.targetIn, Bool.and_eq_true, beq_iff_eq] at hs
      obtain ⟨hr, hst⟩ | ⟨hr, hst⟩ := hs
      · exact ⟨hr, by simp [State.receiving_eq, hst]⟩
      · exact ⟨hr, by simp [State.receiving_eq, hst]⟩
    have hkeep : s.st.keepalive.restartIfRunning = s.st.keepalive := if_neg (ne_true_of_eq_false hk)
    have hrest : (s.returnSent f rest).pump = s.returnSent f rest :=
      State.pump_settled _ (State.placeable_rests htw fun h => absurd h (ne_true_of_eq_false hnot)) (State.unprocessed_head hb)
    rw [exec_returnListSend hp hrole hl hq hf, hrest, State.returnSent, hkeep]

end Sys2Proof.Machine

/-! ## CREDIT at a SOURCE -/

namespace Sys2Proof.Machine

open Sys2Proof

/-! ### The sequences of the MRL (R94) -/

/-- Records with consecutive sequences, the newest one before `next`. -/
def SeqsBefore (next : BitVec 16) (mrl : List MirrorRecord) : Prop :=
  ∀ i (h : i < mrl.length), mrl[i].seq = next - BitVec.ofNat 16 (mrl.length - i)

/-- The MRL of a sound state. -/
theorem mrlConsecutive_iff {s : State} : MrlConsecutive s ↔ SeqsBefore s.st.mirrorSeq s.st.mrl := Iff.rfl

section Sequences

variable {next a newest : BitVec 16} {r : MirrorRecord} {rs mrl pre post : List MirrorRecord}

/-- The oldest record stands as far before `next` as there are records. -/
theorem SeqsBefore.head (h : SeqsBefore next (r :: rs)) : r.seq = next - BitVec.ofNat 16 (rs.length + 1) := h 0 (Nat.succ_pos _)

/-- The records behind the oldest. -/
theorem SeqsBefore.tail (h : SeqsBefore next (r :: rs)) : SeqsBefore next rs := fun i hi => by
  have hr := h (i + 1) (Nat.succ_lt_succ hi)
  rwa [List.getElem_cons_succ, List.length_cons, Nat.succ_sub_succ] at hr

theorem SeqsBefore.of_append (h : SeqsBefore next (pre ++ post)) : SeqsBefore next post := by
  induction pre with
  | nil => exact h
  | cons _ _ ih => exact ih h.tail

theorem SeqsBefore.drop (h : SeqsBefore next mrl) (n : Nat) : SeqsBefore next (mrl.drop n) := by
  rw [← List.take_append_drop n mrl] at h
  exact h.of_append

theorem SeqsBefore.seq_of_mem (h : SeqsBefore next mrl) (hr : r ∈ mrl) :
    ∃ j, 1 ≤ j ∧ j ≤ mrl.length ∧ r.seq = next - BitVec.ofNat 16 j := by
  obtain ⟨i, hi, rfl⟩ := List.mem_iff_getElem.1 hr
  exact ⟨mrl.length - i, by omega, by omega, h i hi⟩

/-- A record's sequence names a mirror that has been made (R95). -/
theorem SeqsBefore.made (h : SeqsBefore next mrl) (hl : mrl.length ≤ 128) (hr : r ∈ mrl) : 32768 ≤ (r.seq - next).toNat := by
  obtain ⟨j, h1, h2, hj⟩ := h.seq_of_mem hr
  rw [hj]
  bv_omega

/-! ### The records an acknowledgement removes (R95) -/

/-- An acknowledgement removes by its distance from the oldest record. -/
theorem SeqsBefore.ackRemove_eq (h : SeqsBefore next mrl) (hl : mrl.length ≤ 128) (a : BitVec 16) : ackRemove a mrl =
    if (a - (next - BitVec.ofNat 16 mrl.length)).toNat < mrl.length
    then mrl.drop ((a - (next - BitVec.ofNat 16 mrl.length)).toNat + 1) else mrl := by
  cases mrl with
  | nil => rfl
  | cons o rest =>
    have hnewest : ((o :: rest).getLast (by simp)).seq = next - 1#16 := by
      rw [List.getLast_eq_getElem, h _ (by simp)]
      simp
    have hspan : (next - 1#16 - (next - BitVec.ofNat 16 (rest.length + 1))).toNat = rest.length := by
      simp only [List.length_cons] at hl
      bv_omega
    simp only [ackRemove, List.getLast?_eq_some_getLast (List.cons_ne_nil o rest), hnewest, h.head, hspan, List.length_cons,
      Nat.lt_succ_iff]

/-- An acknowledgement that names a record removes it and all older ones. -/
theorem SeqsBefore.ackRemove_named (h : SeqsBefore next mrl) (hl : mrl.length ≤ 128) (hm : mrl = pre ++ r :: post) :
    ackRemove r.seq mrl = post := by
  subst hm
  have hk : (r.seq - (next - BitVec.ofNat 16 (pre ++ r :: post).length)).toNat = pre.length := by
    rw [h.of_append.head]
    simp only [List.length_append, List.length_cons] at hl ⊢
    bv_omega
  rw [h.ackRemove_eq hl, hk, if_pos (by simp)]
  simp

/-- An acknowledgement that names no record removes none. -/
theorem SeqsBefore.ackRemove_unnamed (h : SeqsBefore next mrl) (hl : mrl.length ≤ 128) (hn : ∀ r ∈ mrl, r.seq ≠ a) :
    ackRemove a mrl = mrl := by
  rw [h.ackRemove_eq hl]
  refine if_neg fun hk => hn _ (List.getElem_mem hk) ?_
  rw [h _ hk]
  bv_omega

/-! ### The records that settlement takes (R96) -/

/-- A record within 127 of the newest mirror sent is one that has been sent. -/
theorem sent_iff {j : Nat} (h1 : 1 ≤ j) (h2 : j ≤ 128) (hn : 32768 ≤ (newest - next).toNat) :
    (newest - (next - BitVec.ofNat 16 j)).toNat ≤ 127 ↔ (next - newest).toNat ≤ j := by
  bv_omega

/-- Behind a record that has not been sent none has been. -/
theorem SeqsBefore.unsent_tail (h : SeqsBefore next (r :: rs)) (hl : (r :: rs).length ≤ 128)
    (hn : 32768 ≤ (newest - next).toNat) (hr : ¬ (newest - r.seq).toNat ≤ 127) : ∀ x ∈ rs, ¬ (newest - x.seq).toNat ≤ 127 := by
  intro x hx
  obtain ⟨j, h1, h2, hj⟩ := h.tail.seq_of_mem hx
  rw [List.length_cons] at hl
  rw [h.head, sent_iff (Nat.succ_pos _) hl hn] at hr
  rw [hj, sent_iff h1 (by omega) hn]
  omega

/-- Settlement takes the records whose mirrors have been sent and leaves the others. -/
theorem SeqsBefore.settled_eq (h : SeqsBefore next mrl) (hl : mrl.length ≤ 128) (hn : 32768 ≤ (newest - next).toNat) :
    settled (some newest) mrl = mrl.filter (fun r => decide ((newest - r.seq).toNat ≤ 127)) ∧
      mrl.drop (settled (some newest) mrl).length = mrl.filter fun r => decide (127 < (newest - r.seq).toNat) := by
  induction mrl with
  | nil => exact ⟨rfl, rfl⟩
  | cons r rs ih =>
    obtain ⟨htaken, hleft⟩ := ih h.tail (Nat.le_of_succ_le hl)
    by_cases hr : (newest - r.seq).toNat ≤ 127
    · have hr' : ¬ 127 < (newest - r.seq).toNat := Nat.not_lt.2 hr
      simp only [settled, hr, if_true, List.filter_cons, decide_true, hr', decide_false, Bool.false_eq_true, if_false,
        List.length_cons, List.drop_succ_cons]
      exact ⟨congrArg _ htaken, hleft⟩
    · have hnone : ∀ x ∈ r :: rs, ¬ (newest - x.seq).toNat ≤ 127 := List.forall_mem_cons.2 ⟨hr, h.unsent_tail hl hn hr⟩
      have hempty : settled (some newest) (r :: rs) = [] := if_neg hr
      rw [hempty, List.filter_eq_nil_iff.2 (by simpa using hnone), List.filter_eq_self.2 (by simpa using hnone)]
      exact ⟨rfl, rfl⟩

end Sequences

end Sys2Proof.Machine

namespace Sys2Proof.Machine

open Sys2Proof

/-! ### What marking dirty leaves of the credits and of PROTOCOL -/

/-- What a CREDIT has written before it settles the MRL (R91, R95). -/
def State.creditView (s : State) : Nat × Nat := (s.st.sendCredits, s.mgp.counters.protocol)

section View

variable (s : State)

theorem State.creditView_appendMark : (s.appendMark .syncLost).creditView = s.creditView := by
  unfold State.appendMark
  split
  · rw [State.appendTx_eq]
    rfl
  · split
    · rfl
    · rfl

theorem State.creditView_syncLost : s.syncLost.creditView = s.creditView := by
  have h := s.creditView_appendMark
  unfold State.syncLost
  generalize s.appendMark .syncLost = u at h
  exact h

theorem State.creditView_dirty (g : Nat) : (s.dirty g).creditView = s.creditView := by
  have hwake : ∀ u : State, u.wake.creditView = u.creditView := fun u => by
    unfold State.wake
    split <;> rfl
  unfold State.dirty
  extract_lets u v
  have hv : v.creditView = s.creditView := by
    unfold v
    split
    · exact hwake u
    · rfl
  split
  · exact v.creditView_syncLost.trans hv
  · exact hv

theorem State.creditView_dirtyRecords (rs : List MirrorRecord) : (s.dirtyRecords rs).creditView = s.creditView := by
  induction rs generalizing s with
  | nil => rfl
  | cons r rs ih =>
    rw [State.dirtyRecords, ih, State.streamDirty]
    split
    · rfl
    · obtain ⟨-, h⟩ | ⟨-, h⟩ | ⟨-, -, h⟩ := s.markDirty_cases r.granule
      · rw [h, State.creditView_dirty]
      · rw [h]
        rfl
      · rw [h]

end View

/-! ### Settlement (R96, R99) -/

/-- What a settlement that takes some records and leaves others makes of a state. -/
structure Settles (taken left : List MirrorRecord) (s t : State) : Prop where
  mrl : t.st.mrl = left
  credit : t.creditView = s.creditView
  losses : t.mgp.counters.losses =
    if taken = [] then s.mgp.counters.losses else min 16777215 (s.mgp.counters.losses + 1)
  dirtied : s.sc.releasePending = false → ∀ r ∈ taken, s.isOpen r.granule = false → t.entry r.granule ≠ some .copied
  released : s.sc.releasePending = true → t.gm = s.gm ∧ t.se = s.se ∧ t.sc = s.sc

theorem State.settle_settles {s : State} {mrl : List MirrorRecord} {newest : Option (BitVec 16)} (hm : s.st.mrl = mrl)
    (hn : s.st.newestSent = newest) :
    Settles (settled newest mrl) (mrl.drop (settled newest mrl).length) s s.settle := by
  subst hm hn
  unfold State.settle
  cases settled s.st.newestSent s.st.mrl with
  | nil => exact ⟨rfl, rfl, rfl, by simp, fun _ => ⟨rfl, rfl, rfl⟩⟩
  | cons r rs =>
    let u := s.setSt { s.st with mrl := s.st.mrl.drop (rs.length + 1) }
    have hview := u.creditView_dirtyRecords (r :: rs)
    by_cases hr : s.sc.releasePending = true
    · have hsame := u.dirtyRecords_released (r :: rs) hr
      dsimp only
      rw [hsame]
      exact ⟨rfl, rfl, rfl, fun h => absurd hr (ne_true_of_eq_false h), fun _ => ⟨rfl, rfl, rfl⟩⟩
    · have hmarked := Marked.dirtyRecords u (r :: rs) (eq_false_of_ne_true hr)
      exact ⟨hmarked.mrl, hview, congrArg (fun n => min 16777215 (n + 1)) hmarked.losses,
        fun _ x hx ho => hmarked.ended x.granule ⟨x, hx, rfl⟩ ho, fun h => absurd h hr⟩

/-! ### A CREDIT (R91, R95) -/

theorem parse_credit (n : Byte) (a : BitVec 16) : parseFrame (Frame.credit n a).body = some (.credit n a) := by
  have h : field (n :: toBytes 2 a.toNat) 1 2 = a.toNat := by
    rw [field_cons_succ _ _ _ (by omega), field_toBytes]
    exact Nat.mod_eq_of_lt a.isLt
  simp [parseFrame, Frame.body, fieldsOf, field_cons_zero, h]

section Credit

variable {s : State} {n : Byte} {a : BitVec 16}

/-- A CREDIT in a sending state (R91, R122). -/
theorem exec_credit (hp : s.phase = .running) (hl : s.sc.linkUp = true) (hs : s.sending = true) :
    exec (.frameArrival (Frame.credit n a).bytes) s = .next (s.heard.takeCredit n.toNat a) := by
  have hr : s.heard.sc.role = .source := s.sending_role hs
  rw [exec_frameArrival hp hl (parse_credit n a), State.takeFrame, hr]
  exact congrArg _ (if_pos hs)

/-- The send credits raised, and what is above 32 counted (R91). -/
def State.credited (s : State) (n : Nat) : State := { s with
  st := { s.st with sendCredits := min 32 (s.st.sendCredits + n) }
  mgp := { s.mgp with counters := { s.mgp.counters with
    protocol := if 32 < s.st.sendCredits + n then min 16777215 (s.mgp.counters.protocol + 1)
      else s.mgp.counters.protocol } } }

/-- The MRL as an acknowledgement leaves it (R95). -/
def State.acknowledged (s : State) (a : BitVec 16) : State := s.setSt { s.st with mrl := ackRemove a s.st.mrl }

theorem State.takeCredit_eq (s : State) (n : Nat) (a : BitVec 16) : s.takeCredit n a =
    if s.ackAhead a then (s.credited n).count .protocol
    else if 32 ≤ s.st.sendCredits + n then ((s.credited n).acknowledged a).settle else (s.credited n).acknowledged a := by
  unfold State.takeCredit
  extract_lets sum _ raised counted _ acked
  have hcounted : counted = s.credited n := by
    by_cases h : 32 < s.st.sendCredits + n
    · simp only [State.credited, if_pos h]
      exact if_pos h
    · simp only [State.credited, if_neg h]
      exact if_neg h
  have hacked : acked = (s.credited n).acknowledged a := by
    rw [← hcounted]
    rfl
  have hfull : min 32 (s.st.sendCredits + n) = 32 ↔ 32 ≤ s.st.sendCredits + n := by omega
  rw [hacked, hcounted]
  exact if_congr Iff.rfl rfl (if_congr hfull rfl rfl)

theorem State.takeCredit_ahead (n : Nat) (h : (a - s.st.mirrorSeq).toNat < 32768) :
    s.takeCredit n a = (s.credited n).count .protocol := by
  rw [State.takeCredit_eq]
  exact if_pos (decide_eq_true h)

theorem State.takeCredit_settles {k : Nat} (h : 32768 ≤ (a - s.st.mirrorSeq).toNat) (hk : 32 ≤ s.st.sendCredits + k) :
    s.takeCredit k a = ((s.credited k).acknowledged a).settle := by
  rw [State.takeCredit_eq, if_neg (by simpa [State.ackAhead] using h), if_pos hk]

theorem State.takeCredit_acknowledges {k : Nat} (h : 32768 ≤ (a - s.st.mirrorSeq).toNat) (hk : s.st.sendCredits + k < 32) :
    s.takeCredit k a = { s with st := { s.st with
      sendCredits := s.st.sendCredits + k, mrl := ackRemove a s.st.mrl } } := by
  have hsum : min 32 (s.st.sendCredits + k) = s.st.sendCredits + k := by omega
  rw [State.takeCredit_eq, if_neg (by simpa [State.ackAhead] using h), if_neg (by omega), State.acknowledged, State.credited,
    hsum, if_neg (by omega)]
  rfl

end Credit

/-- Settles O24: what an acknowledgement removes by the sequences of the MRL, then what settlement takes of the rest. -/
theorem creditTaken : Obligations.CreditTaken := by
  unfold Obligations.CreditTaken
  refine ⟨fun n a s hp hl hs hsum hm hlen => ⟨fun pre r post hmrl hr => ?_, fun ha hn => ?_, fun ha => ?_⟩,
    fun n a s hp hl hs hsum ha => ?_, fun n a newest kept s hp hl hs hsum hm hlen ha hkept hnew hn => ?_⟩
  · obtain rfl := hr
    have hseq := mrlConsecutive_iff.1 hm
    have hmade : 32768 ≤ (r.seq - s.heard.st.mirrorSeq).toNat := hseq.made hlen (by simp [hmrl])
    have hack : ackRemove r.seq s.heard.st.mrl = post := hseq.ackRemove_named hlen hmrl
    rw [exec_credit hp hl hs, State.takeCredit_acknowledges (s := s.heard) hmade hsum, hack]
    rfl
  · have hack : ackRemove a s.heard.st.mrl = s.st.mrl := (mrlConsecutive_iff.1 hm).ackRemove_unnamed hlen hn
    rw [exec_credit hp hl hs, State.takeCredit_acknowledges (s := s.heard) ha hsum, hack]
    rfl
  · have hmin : min 32 (s.heard.st.sendCredits + n.toNat) = s.st.sendCredits + n.toNat := Nat.min_eq_right hsum.le
    have hnot : ¬ 32 < s.heard.st.sendCredits + n.toNat := Nat.not_lt.2 hsum.le
    rw [exec_credit hp hl hs, State.takeCredit_ahead (s := s.heard) _ ha, State.credited, hmin, if_neg hnot]
    rfl
  · have hmin : min 32 (s.heard.st.sendCredits + n.toNat) = 32 := Nat.min_eq_left hsum
    rw [exec_credit hp hl hs, State.takeCredit_ahead (s := s.heard) _ ha, State.credited, hmin]
    by_cases h : 32 < s.st.sendCredits + n.toNat
    · have htwo : min 16777215 (min 16777215 (s.mgp.counters.protocol + 1) + 1) =
          min 16777215 (s.mgp.counters.protocol + 2) := by omega
      rw [if_pos h, if_pos (show 32 < s.heard.st.sendCredits + n.toNat from h), ← htwo]
      rfl
    · rw [if_neg h, if_neg (show ¬ 32 < s.heard.st.sendCredits + n.toNat from h)]
      rfl
  · have hack : ackRemove a s.st.mrl = kept := by
      obtain ⟨hn, rfl⟩ | ⟨pre, r, hmrl, rfl⟩ := hkept
      · exact (mrlConsecutive_iff.1 hm).ackRemove_unnamed hlen hn
      · exact (mrlConsecutive_iff.1 hm).ackRemove_named hlen hmrl
    obtain ⟨k, hk⟩ := ackRemove_eq_drop a s.st.mrl
    have hdrop : kept = s.st.mrl.drop k := hack.symm.trans hk
    have hseq : SeqsBefore s.st.mirrorSeq kept := hdrop ▸ (mrlConsecutive_iff.1 hm).drop k
    have hkl : kept.length ≤ 128 := by
      rw [hdrop, List.length_drop]
      omega
    obtain ⟨htaken, hleft⟩ := hseq.settled_eq hkl hn
    obtain ⟨hmrl, hcredit, hlosses, hdirtied, hreleased⟩ :=
      State.settle_settles (s := (s.heard.credited n.toNat).acknowledged a) hack hnew
    obtain ⟨hcr, hpr⟩ := Prod.mk.inj hcredit
    refine ⟨_, (exec_credit hp hl hs).trans (congrArg _ (State.takeCredit_settles (s := s.heard) ha hsum)), ?_, ?_,
      fun hr r hm hs ho => ?_, hreleased, hpr, ?_⟩
    · exact hcr.trans (Nat.min_eq_left hsum)
    · exact hmrl.trans hleft
    · refine hdirtied hr r ?_ ho
      rw [htaken]
      exact List.mem_filter.2 ⟨hm, decide_eq_true hs⟩
    · refine hlosses.trans ?_
      rw [htaken]
      by_cases hany : kept.any (fun r => decide ((newest - r.seq).toNat ≤ 127)) = true
      · rw [if_pos hany, if_neg (by simpa [List.filter_eq_nil_iff] using hany)]
        rfl
      · rw [if_neg hany, if_pos (by simpa [List.filter_eq_nil_iff] using hany)]
        rfl

end Sys2Proof.Machine

/-! ## Frames that go out are read back, whatever their kind -/

namespace Sys2Proof.Machine

open Sys2Proof

/-! ### The kinds not read back so far (R197, R198) -/

/-- OPEN and CLOSE have one layout: a granule and an open number. -/
theorem field_granule_open (g : BitVec 24) (o : Byte) :
    field (toBytes 3 g.toNat ++ [o]) 0 3 = g.toNat ∧ field (toBytes 3 g.toNat ++ [o]) 3 1 = o.toNat := by
  refine ⟨(field_toBytes_append _ _ _).trans (Nat.mod_eq_of_lt g.isLt), ?_⟩
  rw [field_toBytes_skip _ _ _ (Nat.le_refl 3)]
  exact field_cons_zero o []

theorem parse_opening (g : BitVec 24) (o : Byte) : parseFrame (Frame.opening g o).body = some (.opening g o) := by
  simp [parseFrame, Frame.body, fieldsOf, field_granule_open]

theorem parse_close (g : BitVec 24) (o : Byte) : parseFrame (Frame.close g o).body = some (.close g o) := by
  simp [parseFrame, Frame.body, fieldsOf, field_granule_open]

/-- The line word holds the poison flag above the line index. -/
theorem lineWord_parts (p : Bool) (i : BitVec 10) : lineWord p i < 65536 ∧ (lineWord p i).testBit 15 = p ∧
    BitVec.ofNat 10 (lineWord p i) = i := by
  have hi := i.isLt
  have hbit : lineWord p i = (if p then 32768 else 0) + i.toNat := by cases p <;> rfl
  rw [hbit, Nat.testBit_eq_decide_div_mod_eq]
  refine ⟨by split <;> omega, ?_, BitVec.eq_of_toNat_eq ?_⟩
  · cases p
    · simp only [Bool.false_eq_true, if_false, decide_eq_false_iff_not]
      omega
    · simp only [if_true, decide_eq_true_eq]
      omega
  · rw [BitVec.toNat_ofNat]
    split <;> omega

theorem parse_line (o : Byte) (p : Bool) (i : BitVec 10) {d : LineData} (hd : d.length = 64) :
    parseFrame (Frame.line o p i d).body = some (.line o p i d) := by
  obtain ⟨hlt, hpoison, hindex⟩ := lineWord_parts p i
  have hword : field (o :: (toBytes 2 (lineWord p i) ++ d)) 1 2 = lineWord p i := by
    rw [field_cons_succ _ _ _ (by omega), field_toBytes_append]
    exact Nat.mod_eq_of_lt hlt
  have hdata : (o :: (toBytes 2 (lineWord p i) ++ d)).drop 3 = d := List.drop_left' (l₁ := o :: toBytes 2 (lineWord p i)) (by simp)
  simp [parseFrame, Frame.body, fieldsOf, field_cons_zero, hword, hdata, hd, hpoison, hindex]

/-- The bits of a mask come back from its bytes (R197). -/
theorem getLsbD_maskOf (m : ByteMask) (n k i : Nat) (hi : i < 64) :
    (maskOf ((List.range n).map fun j => m.extractLsb' (8 * (k + j)) 8)).getLsbD i =
      (decide (i < 8 * n) && m.getLsbD (8 * k + i)) := by
  induction n generalizing k i with
  | zero => simp [maskOf]
  | succ n ih =>
    have hnext : (List.range n).map (fun j => m.extractLsb' (8 * (k + (j + 1))) 8) =
        (List.range n).map fun j => m.extractLsb' (8 * (k + 1 + j)) 8 :=
      List.map_congr_left fun j _ => by rw [Nat.add_right_comm, Nat.add_assoc]
    have hfold : maskOf ((List.range (n + 1)).map fun j => m.extractLsb' (8 * (k + j)) 8) =
        (maskOf ((List.range n).map fun j => m.extractLsb' (8 * (k + 1 + j)) 8)) <<< 8 |||
          (m.extractLsb' (8 * k) 8).setWidth 64 := by
      rw [List.range_succ_eq_map, List.map_cons, List.map_map, ← hnext]
      rfl
    rw [hfold, BitVec.getLsbD_or, BitVec.getLsbD_shiftLeft, BitVec.getLsbD_setWidth, BitVec.getLsbD_extractLsb']
    by_cases h : i < 8
    · simp [h, hi]
      omega
    · have hshift : 8 * (k + 1) + (i - 8) = 8 * k + i := by omega
      have hlt : i - 8 < 8 * n ↔ i < 8 * (n + 1) := by omega
      simp [h, hi, ih (k + 1) (i - 8) (by omega), hshift, hlt]

theorem maskOf_maskBytes (m : ByteMask) : maskOf (maskBytes m) = m := by
  refine BitVec.eq_of_getLsbD_eq fun i hi => ?_
  have h := getLsbD_maskOf m 8 0 i hi
  simp only [Nat.zero_add, Nat.mul_zero] at h
  rw [maskBytes, h]
  simp [hi]

theorem parse_mirror (q : BitVec 16) (a : BitVec 32) (m : ByteMask) {d : LineData} (hd : d.length = 64) :
    parseFrame (Frame.mirror q a m d).body = some (.mirror q a m d) := by
  have hmask : (maskBytes m).length = 8 := by simp [maskBytes]
  have hseq : field (toBytes 2 q.toNat ++ toBytes 4 a.toNat ++ maskBytes m ++ d) 0 2 = q.toNat := by
    rw [List.append_assoc, List.append_assoc, field_toBytes_append]
    exact Nat.mod_eq_of_lt q.isLt
  have haddr : field (toBytes 2 q.toNat ++ toBytes 4 a.toNat ++ maskBytes m ++ d) 2 4 = a.toNat := by
    rw [List.append_assoc, List.append_assoc, field_toBytes_skip _ _ _ (Nat.le_refl 2), field_toBytes_append]
    exact Nat.mod_eq_of_lt a.isLt
  have hbytes : ((toBytes 2 q.toNat ++ toBytes 4 a.toNat ++ maskBytes m ++ d).drop 6).take 8 = maskBytes m := by
    rw [List.append_assoc (toBytes 2 q.toNat ++ toBytes 4 a.toNat), List.drop_left' (by simp), List.take_left' hmask]
  have hdata : (toBytes 2 q.toNat ++ toBytes 4 a.toNat ++ maskBytes m ++ d).drop 14 = d := List.drop_left' (by simp [hmask])
  simp only [parseFrame, Frame.body, fieldsOf, hseq, haddr, hbytes, hdata, maskOf_maskBytes, BitVec.ofNat_toNat,
    BitVec.setWidth_eq]
  simp [hmask, hd]

theorem markOf_code (k : MarkKind) : markOf k.code k.value = some k := by
  cases k with
  | passEnd p d =>
    have hp : field (toBytes 2 p.toNat ++ toBytes 3 d.toNat) 0 2 = p.toNat :=
      (field_toBytes_append _ _ _).trans (Nat.mod_eq_of_lt p.isLt)
    have hd : field (toBytes 2 p.toNat ++ toBytes 3 d.toNat) 2 3 = d.toNat := by
      rw [field_toBytes_skip _ _ _ (Nat.le_refl 2), field_toBytes]
      exact Nat.mod_eq_of_lt d.isLt
    simp [markOf, MarkKind.code, MarkKind.value, hp, hd]
  | cutoverBegin a => simp [markOf, MarkKind.code, MarkKind.value, field_cons_zero]
  | cutoverAbort a => simp [markOf, MarkKind.code, MarkKind.value, field_cons_zero]
  | cutoverEnd | syncLost | release => rfl

theorem parse_mark (n : Byte) (k : MarkKind) : parseFrame (Frame.mark n k).body = some (.mark n k) := by
  have hlen : k.value.length = 5 := by cases k <;> simp [MarkKind.value]
  have hcode : field (n :: k.code :: k.value) 1 1 = k.code.toNat := by
    rw [field_cons_succ _ _ _ (Nat.le_refl 1)]
    exact field_cons_zero _ _
  simp [parseFrame, Frame.body, fieldsOf, field_cons_zero, hlen, hcode, markOf_code]

theorem parse_ready (n : Byte) (ok : Bool) : parseFrame (Frame.ready n ok).body = some (.ready n ok) := by
  have hanswer : field [n, if ok then 1#8 else 2#8] 1 1 = (if ok then 1#8 else 2#8).toNat := by
    rw [field_cons_succ _ _ _ (Nat.le_refl 1)]
    exact field_cons_zero _ _
  cases ok with
  | true => simp_all [parseFrame, Frame.body, fieldsOf, field_cons_zero]
  | false => simp_all [parseFrame, Frame.body, fieldsOf, field_cons_zero]

theorem parse_taken (n : Byte) : parseFrame (Frame.taken n).body = some (.taken n) := by
  simp [parseFrame, Frame.body, fieldsOf, field_cons_zero]

/-- A frame whose fields fit the wire is read back from its body (R197, R198). -/
theorem parse_body {f : Frame} (h : f.wf = true) : parseFrame f.body = some f := by
  cases f with
  | hello n span q => exact parse_hello n span q
  | opening g o => exact parse_opening g o
  | line o p i d => exact parse_line o p i (by simpa [Frame.wf] using h)
  | close g o => exact parse_close g o
  | mirror q a m d => exact parse_mirror q a m (by simpa [Frame.wf] using h)
  | mark n k => exact parse_mark n k
  | keep => rfl
  | reply n a fs => exact parse_reply n a fs (by simpa [Frame.wf] using h)
  | credit n a => exact parse_credit n a
  | need g => exact parse_need g
  | loss e d => exact parse_loss e d
  | ready n ok => exact parse_ready n ok
  | taken n => exact parse_taken n

end Sys2Proof.Machine

/-! ## A frame at the head of an empty receive buffer -/

namespace Sys2Proof.Machine

open Sys2Proof

/-! ### A TARGET that has nothing waiting (R108, R117) -/

/-- `State.listening` without the part, the link and the room in the return list: what every decision about the head frame keeps. -/
structure State.Resting (u : State) : Prop where
  receiving : u.receiving = true
  buffer : u.sr.buffer = []
  head : u.sr.head = none
  failedApply : u.sr.failedApply = []
  creditDue : u.sr.creditDue = false
  takenWaiting : u.sc.takenWaiting = false
  freed : u.sr.freed < 7

/-- The state with a frame in its receive buffer, at the head and not yet processed. -/
def State.withHead (u : State) (f : Frame) : State := u.setSr { u.sr with buffer := [f] }

/-- The state with one more slot counted as freed (R116). -/
def State.oneFreed (u : State) : State := { u with sr := { u.sr with freed := u.sr.freed + 1 } }

/-- SC of a TARGET that has left SHADOW, or was in FILLING already (R142, R143). -/
def Sc.filled (c : Sc) : Sc :=
  { c with state := .filling, unsynced := c.unsynced || (c.state == .shadow && c.takeoverPending) }

variable {s u : State} {f : Frame}

theorem State.Resting.of_listening (hs : s.listening) : s.heard.Resting := by
  obtain ⟨_, _, hr, hb, hh, hfa, hcd, htw, hfr, _⟩ := hs
  exact ⟨hr, hb, hh, hfa, hcd, htw, hfr⟩

theorem State.Resting.listening_room (hs : s.listening) : s.heard.st.returnList.length < 15 := by
  obtain ⟨_, _, _, _, _, _, _, _, _, hrl⟩ := hs
  exact hrl

/-- SR may change but for the buffer, the claims and the freed count. -/
theorem State.Resting.setSr (h : u.Resting) {x : Sr} (hb : x.buffer = u.sr.buffer) (hh : x.head = u.sr.head)
    (hf : x.failedApply = u.sr.failedApply) (hc : x.creditDue = u.sr.creditDue) (hn : x.freed = u.sr.freed) :
    (u.setSr x).Resting :=
  ⟨h.receiving, hb.trans h.buffer, hh.trans h.head, hf.trans h.failedApply, hc.trans h.creditDue, h.takenWaiting,
    hn.trans_lt h.freed⟩

theorem State.Resting.setLatch (h : u.Resting) (l : Option Latch) : (u.setLatch l).Resting := h.setSr rfl rfl rfl rfl rfl

theorem State.Resting.setMgp (h : u.Resting) (x : Mgp) : (u.setMgp x).Resting := { h with }

/-- SC may change within FILLING and SHADOW. -/
theorem State.Resting.setSc (h : u.Resting) {x : Sc} (hr : x.role = u.sc.role) (hs : x.state = .filling ∨ x.state = .shadow)
    (ht : x.takenWaiting = u.sc.takenWaiting) : (u.setSc x).Resting := by
  refine { h with receiving := ?_, takenWaiting := ht.trans h.takenWaiting }
  obtain ⟨hrole, -⟩ := u.receiving_session h.receiving
  rcases hs with hs | hs <;> simp [State.receiving_eq, hr, hrole, hs]

/-- The clean flag cleared on a TARGET that takes the copy stream (R119, R121). -/
def State.cleared (u : State) : State := { u with sr := { u.sr with clean := false }, sc := u.sc.filled }

theorem State.clearClean_eq (hr : u.receiving = true) : u.clearClean = u.cleared := u.clearClean_receiving hr

theorem State.Resting.cleared (h : u.Resting) : u.cleared.Resting :=
  (h.setSr (x := { u.sr with clean := false }) rfl rfl rfl rfl rfl).setSc rfl (.inl rfl) rfl

/-- Outside SHADOW there is no SHADOW to leave. -/
theorem Sc.filled_of_filling {c : Sc} (h : c.state = .filling) : c.filled = c := by
  have hne : (SessionState.filling == SessionState.shadow) = false := rfl
  rw [Sc.filled, h, hne, Bool.false_and, Bool.or_false, ← h]

/-- A TARGET that takes the copy stream is in FILLING when it is not in SHADOW (R142). -/
theorem State.returnToFilling_eq (hr : u.receiving = true) : u.returnToFilling = u.setSc u.sc.filled := by
  obtain ⟨hrole, hs | hs⟩ := u.receiving_session hr
  · rw [Sc.filled_of_filling hs]
    exact u.returnToFilling_other (by simp [State.targetIn, hs])
  · simp [State.returnToFilling, State.targetIn, hrole, hs, Sc.filled]

/-! ### What becomes of the head frame (R108, R117) -/

/-- A frame that enters the empty buffer is processed at once. -/
theorem State.enterBuffer_processed (h : u.Resting) (f : Frame) :
    u.enterBuffer f = State.pumpFor 17 ((u.withHead f).processHead f) := by
  have hb := h.buffer
  have hentered : u.enterBuffer f = State.pumpFor 18 (u.withHead f) := by
    simp [State.enterBuffer, hb, State.pump, State.withHead, Config.bufferSlots, Config.returnPlaces]
  have hplace : (u.withHead f).placeable = none :=
    State.placeable_none h.takenWaiting h.failedApply h.head h.creditDue
  have hnext : (u.withHead f).unprocessed = some f := by
    have hr : (u.withHead f).receiving = true := h.receiving
    have hh : (u.withHead f).sr.head = none := h.head
    simp [State.unprocessed, hr, hh]
    rfl
  rw [hentered, State.pumpFor, hplace, hnext]

/-- A TARGET that takes the copy stream takes every frame but KEEP into its buffer (R107). -/
theorem State.takeFrame_receiving (h : u.receiving = true) (hk : f ≠ .keep) : u.takeFrame f = u.enterBuffer f := by
  obtain ⟨hr, hst⟩ := u.receiving_session h
  rw [State.takeFrame, hr]
  cases f with
  | keep => exact absurd rfl hk
  | _ =>
    simp only [State.targetFrame]
    obtain hst | hst := hst
    · rw [hst]
    · rw [hst]

/-- A well-formed frame other than KEEP at a TARGET that has nothing waiting is processed at once (R107, R108). -/
theorem exec_listening (f : Frame) (hs : s.listening) (hf : f.wf = true) (hk : f ≠ .keep) :
    exec (.frameArrival f.bytes) s = .next (State.pumpFor 17 ((s.heard.withHead f).processHead f)) := by
  have hrest := State.Resting.of_listening hs
  obtain ⟨hp, hl, _⟩ := hs
  rw [exec_frameArrival hp hl (parse_body hf), ← State.enterBuffer_processed hrest,
    State.takeFrame_receiving hrest.receiving hk]

/-- A slot freed before the eighth makes no CREDIT due (R116). -/
theorem State.raiseFreed_early (hc : u.sr.creditDue = false) (hf : u.sr.freed < 7) : u.raiseFreed = u.oneFreed := by
  have hfreed : satSucc Config.bufferSlots u.sr.freed = u.sr.freed + 1 := Nat.min_eq_right (Nat.lt_trans hf (by decide))
  have hdue : (u.sr.creditDue || u.sr.freed + 1 == Config.creditThreshold) = u.sr.creditDue := by
    simp only [hc, Bool.false_or, beq_eq_false_iff_ne, Config.creditThreshold]
    omega
  rw [State.raiseFreed, hfreed, hdue]
  rfl

/-- A frame with no answer and no apply write leaves, and its slot is freed (R108, R116). -/
theorem State.Resting.leaveHead (h : u.Resting) (f : Frame) : (u.withHead f).leaveHead = u.oneFreed := by
  have hempty : (u.withHead f).setSr { (u.withHead f).sr with buffer := [], head := none } = u := by
    rw [← h.buffer, ← h.head]
    rfl
  have hleave : (u.withHead f).leaveHead =
      ((u.withHead f).setSr { (u.withHead f).sr with buffer := [], head := none }).freeSlot := rfl
  rw [hleave, hempty, State.freeSlot, if_pos h.receiving, State.raiseFreed_early h.creditDue h.freed]

/-- With its slot freed and no frame behind it nothing more happens. -/
theorem State.Resting.pumpFor_oneFreed (h : u.Resting) (n : Nat) : State.pumpFor n u.oneFreed = u.oneFreed :=
  State.pumpFor_settled _ _ (State.placeable_none h.takenWaiting h.failedApply h.head h.creditDue)
    (State.unprocessed_none h.buffer)

theorem State.Resting.leaves (h : u.Resting) (f : Frame) (n : Nat) :
    State.pumpFor n ((u.withHead f).headBecomes [] none) = u.oneFreed := by
  have hleave : (u.withHead f).headBecomes [] none = (u.withHead f).leaveHead := if_pos ⟨rfl, rfl⟩
  rw [hleave, h.leaveHead, h.pumpFor_oneFreed]

/-- A LINE or MIRROR accepted for apply stays at the head, on offer (R108, R114). -/
theorem State.Resting.offers (h : u.Resting) (f : Frame) (w : ApplyWrite) (n : Nat) :
    State.pumpFor n ((u.withHead f).headBecomes [] (some w)) =
      u.setSr { u.sr with buffer := [f], head := some ⟨[], some w⟩ } := by
  have hhead : (u.withHead f).headBecomes [] (some w) = u.setSr { u.sr with buffer := [f], head := some ⟨[], some w⟩ } :=
    if_neg (by simp)
  rw [hhead]
  exact State.pumpFor_settled _ _
    (State.placeable_rests h.takenWaiting fun _ => ⟨h.failedApply, h.creditDue, .inr ⟨_, rfl⟩⟩)
    (State.unprocessed_head nofun)

/-- An answer with the frame it appends, counted as R185 says, and what READY does to the state (R107, R111, R112, R120). -/
def State.replied (u : State) : Answer → State
  | .need g => (u.appendReturn (.need (BitVec.ofNat 24 g))).count .needs
  | .loss e d => (u.appendReturn (.loss e d)).count .losses
  | .refuse n => u.appendReturn (.reply n .refuseState [])
  | .ready => u.appendReady

theorem State.appendAnswer_eq (u : State) (a : Answer) : u.appendAnswer a = (u.replied a).answered := by
  cases a <;> rfl

theorem State.Resting.replied (h : u.Resting) (a : Answer) : (u.replied a).Resting := by
  have happend : ∀ x, (u.appendReturn x).Resting := fun _ => { h with }
  cases a with
  | need g => exact (happend _).setMgp _
  | loss e d => exact (happend _).setMgp _
  | refuse n => exact happend _
  | ready =>
    change u.appendReady.Resting
    unfold State.appendReady
    split
    · exact (happend _).setSc rfl (.inr rfl) rfl
    · exact (happend _).setSr rfl rfl rfl rfl rfl

/-- The head frame's first answer takes its place where the return list has one; then the frame's other answers follow (R117). -/
theorem State.Resting.answers (h : u.Resting) (hl : u.st.returnList.length < 16) (f : Frame) (a : Answer) (as : List Answer)
    (w : Option ApplyWrite) (n : Nat) : State.pumpFor (n + 1) ((u.withHead f).headBecomes (a :: as) w) =
      State.pumpFor n (((u.replied a).withHead f).headBecomes as w) := by
  let v := (u.withHead f).setSr { (u.withHead f).sr with head := some ⟨a :: as, w⟩ }
  have hhead : (u.withHead f).headBecomes (a :: as) w = v := if_neg (by simp)
  have hplace : v.placeable = some (.answer a) := by
    have hroom : v.st.returnList.length < Config.returnPlaces := hl
    rw [State.placeable, if_pos hroom]
    exact State.firstClaim_head h.receiving h.takenWaiting h.failedApply rfl
  have hreplied : (v.replied a).answered = ((u.replied a).withHead f).headBecomes as w := by
    have hv : v.replied a = ((u.replied a).withHead f).setSr
        { ((u.replied a).withHead f).sr with head := some ⟨a :: as, w⟩ } := by
      cases a with
      | ready =>
        have hclean : v.sr.clean = u.sr.clean := rfl
        simp only [State.replied, State.appendReady, hclean]
        cases u.sr.clean <;> rfl
      | _ => rfl
    rw [hv]
    rfl
  rw [hhead, State.pumpFor, hplace]
  dsimp only
  rw [State.appendClaim, State.appendAnswer_eq, hreplied]

/-- A frame with one answer leaves once that has its place. -/
theorem State.Resting.answers_leaves (h : u.Resting) (hl : u.st.returnList.length < 16) (f : Frame) (a : Answer) (n : Nat) :
    State.pumpFor (n + 1) ((u.withHead f).headBecomes [a] none) = (u.replied a).oneFreed := by
  rw [h.answers hl, (h.replied a).leaves]

/-! ### What is decided with the frame at the head (R105, R111, R113, R119) -/

/-- What a discard leaves (R105, R119, R121). -/
def State.dropped (u : State) (f : Frame) : State := { u with
  sr := { u.sr with clean := false }
  sc := u.sc.filled
  mgp := { u.mgp with
    counters := { u.mgp.counters with discarded := min 16777215 (u.mgp.counters.discarded + 1) }
    event := u.captured .discard (u.discardGranule f) (u.discardDetail f) } }

theorem State.Resting.dropped (h : u.Resting) (f : Frame) : (u.dropped f).Resting := { h.cleared with }

theorem State.discardTarget_eq (hr : u.receiving = true) (f : Frame) : u.discardTarget f = u.dropped f :=
  State.clearClean_eq (u := u.discard f) hr

theorem State.Resting.discardTarget (h : u.Resting) (f g : Frame) :
    (u.withHead f).discardTarget g = (u.dropped g).withHead f := State.discardTarget_eq (u := u.withHead f) h.receiving g

/-- What PROTECTED leaves (R105, R110, R113, R119). -/
def State.fenced (u : State) (g a : Nat) : State := { u with
  sr := { u.sr with clean := false }
  sc := u.sc.filled
  mgp := { u.mgp with
    counters := { u.mgp.counters with protect := min 16777215 (u.mgp.counters.protect + 1) }
    event := u.captured .protect (some g) (.lineAddr a) } }

theorem State.Resting.fenced (h : u.Resting) (g a : Nat) : (u.fenced g a).Resting := { h.cleared with }

theorem State.Resting.protect (h : u.Resting) (f : Frame) (g a : Nat) :
    (u.withHead f).protect g a = (u.fenced g a).withHead f :=
  State.clearClean_eq (u := ((u.withHead f).count .protect).capture .protect (some g) (.lineAddr a)) h.receiving

/-- What a decided NEED leaves (R111, R119, R121). -/
def State.needDecided (u : State) (g : Nat) : State := { u with
  sr := { u.sr with clean := false }
  sc := u.sc.filled
  mgp := { u.mgp with event := u.captured .need (some g) .absent } }

theorem State.Resting.needDecided (h : u.Resting) (g : Nat) : (u.needDecided g).Resting := { h.cleared with }

theorem State.Resting.decideNeed (h : u.Resting) (f : Frame) (g : Nat) :
    (u.withHead f).decideNeed g = (u.needDecided g).withHead f :=
  (if_pos h.receiving).trans (State.clearClean_eq (u := (u.withHead f).capture .need (some g) .absent) h.receiving)

/-- A NEED with its place in the return list (R111, R185). -/
theorem State.replied_need (u : State) (g : Nat) : u.replied (.need g) = { u with
    st := { u.st with returnList := u.st.returnList ++ [.need (BitVec.ofNat 24 g)] }
    mgp := { u.mgp with counters := { u.mgp.counters with needs := min 16777215 (u.mgp.counters.needs + 1) } } } := rfl

/-- A LOSS with its place in the return list (R112, R185). -/
theorem State.replied_loss (u : State) (e d : BitVec 16) : u.replied (.loss e d) = { u with
    st := { u.st with returnList := u.st.returnList ++ [.loss e d] }
    mgp := { u.mgp with counters := { u.mgp.counters with losses := min 16777215 (u.mgp.counters.losses + 1) } } } := rfl

end Sys2Proof.Machine

/-! ## OPEN, LINE and CLOSE at a TARGET -/

namespace Sys2Proof.Machine

open Sys2Proof

variable {s u v : State}

/-! ### A latch left set (R109, R111) -/

theorem incomplete_complete {l : Option Latch} (h : ∀ x, l = some x → 1024 ≤ x.applied) : incomplete l = none := by
  cases l with
  | none => rfl
  | some x => exact if_neg (Nat.not_lt.2 (h x rfl))

theorem incomplete_short {l : Option Latch} {x : Latch} (h : l = some x) (hx : x.applied < 1024) :
    incomplete l = some x.granule := by
  rw [h]
  exact if_pos hx

theorem State.needAnswers_none (u : State) : u.needAnswers none = [] := rfl

theorem State.needAnswers_some (hr : u.receiving = true) (g : Nat) : u.needAnswers (some g) = [.need g] := if_pos hr

/-- A CLOSE of a whole granule needs nothing (R111). -/
theorem closeNeed_whole {g n : Nat} {o : Byte} (h : 1024 ≤ n) : closeNeed (some ⟨g, o, n⟩) g o = none := if_pos ⟨rfl, rfl, h⟩

/-- Any other CLOSE needs its granule again (R111). -/
theorem closeNeed_other {latch : Option Latch} {g : Nat} {o : Byte} (h : ∀ n, 1024 ≤ n → latch ≠ some ⟨g, o, n⟩) :
    closeNeed latch g o = some g := by
  cases latch with
  | none => rfl
  | some l =>
    refine if_neg fun ⟨hg, ho, hn⟩ => h l.applied hn ?_
    rw [← hg, ← ho]

/-! ### The three frames at the head -/

/-- An OPEN at the head, where the NEED that the latch before it calls for leaves `v` (R109). -/
theorem State.Resting.processOpen (h : u.Resting) (hv : v.Resting) {g : BitVec 24} {o : Byte} {need : Option Nat}
    (hneed : incomplete u.sr.latch = need)
    (hdecided : (u.withHead (.opening g o)).decideNeedFor need = v.withHead (.opening g o)) :
    (u.withHead (.opening g o)).processHead (.opening g o) =
      if g.toNat < v.sc.params.span then
        ((v.setLatch (some ⟨g.toNat, o, 0⟩)).withHead (.opening g o)).headBecomes (u.needAnswers need) none
      else (((v.setLatch none).dropped (.opening g o)).withHead (.opening g o)).headBecomes (u.needAnswers need) none := by
  have hopen : (u.withHead (.opening g o)).processHead (.opening g o) =
      (u.withHead (.opening g o)).processOpen (.opening g o) g.toNat o := if_pos h.receiving
  have hneed' : incomplete (u.withHead (.opening g o)).sr.latch = need := hneed
  rw [hopen, State.processOpen, hneed', hdecided, ← (hv.setLatch none).discardTarget]
  rfl

/-- A CLOSE at the head, where the NEED it calls for leaves `v` (R111). -/
theorem State.Resting.processClose (h : u.Resting) {g : BitVec 24} {o : Byte} {need : Option Nat}
    (hneed : closeNeed u.sr.latch g.toNat o = need)
    (hdecided : (u.withHead (.close g o)).decideNeedFor need = v.withHead (.close g o)) :
    (u.withHead (.close g o)).processHead (.close g o) =
      ((v.setLatch none).withHead (.close g o)).headBecomes (u.needAnswers need) none := by
  have hclose : (u.withHead (.close g o)).processHead (.close g o) =
      (u.withHead (.close g o)).processClose g.toNat o := if_pos h.receiving
  have hneed' : closeNeed (u.withHead (.close g o)).sr.latch g.toNat o = need := hneed
  rw [hclose, State.processClose, hneed', hdecided]
  rfl

variable {l : Latch} {f : Frame} {o : Byte} {p : Bool} {i : BitVec 10} {d : LineData}

/-- A LINE under the latch outside the fences is counted and offered for apply (R110). -/
theorem State.processLine_offered (hl : u.sr.latch = some l) (hc : u.localCovers l.granule = false) :
    (u.withHead f).processLine f l.openNo p i d =
      ((u.setLatch (some { l with applied := l.applied + 1 })).withHead f).headBecomes [] (some (lineApply l p i d)) := by
  have hl' : (u.withHead f).sr.latch = some l := hl
  have hc' : (u.withHead f).localCovers l.granule = false := hc
  rw [State.processLine, hl']
  dsimp only
  rw [if_pos rfl, if_neg (ne_true_of_eq_false hc')]
  rfl

/-- A LINE under the latch inside the fences is PROTECTED (R110). -/
theorem State.Resting.processLine_fenced (h : u.Resting) (hl : u.sr.latch = some l) (hc : u.localCovers l.granule = true) :
    (u.withHead f).processLine f l.openNo p i d = ((u.fenced l.granule (l.lineAddr i)).withHead f).headBecomes [] none := by
  have hl' : (u.withHead f).sr.latch = some l := hl
  have hc' : (u.withHead f).localCovers l.granule = true := hc
  rw [State.processLine, hl']
  dsimp only
  rw [if_pos rfl, if_pos hc', h.protect]

/-- A LINE that the latch does not match is discarded (R110). -/
theorem State.Resting.processLine_unmatched (h : u.Resting) (hl : ∀ l, u.sr.latch = some l → l.openNo ≠ o) :
    (u.withHead f).processLine f o p i d = ((u.dropped f).withHead f).headBecomes [] none := by
  have hlatch : (u.withHead f).sr.latch = u.sr.latch := rfl
  rw [State.processLine, hlatch, ← h.discardTarget]
  cases hx : u.sr.latch with
  | none => rfl
  | some l => exact if_neg (hl l hx)

/-- Settles O30: the latch by what it held, the frame by what it comes to, and the answers by their places. -/
theorem granuleFramesAtTarget : Obligations.GranuleFramesAtTarget := by
  unfold Obligations.GranuleFramesAtTarget
  intro s hs
  have hrest := State.Resting.of_listening hs
  have hneeds : ∀ g, s.heard.needAnswers (some g) = [.need g] := State.needAnswers_some hrest.receiving
  have hroom : s.heard.st.returnList.length < 16 := Nat.lt_succ_of_lt (State.Resting.listening_room hs)
  dsimp only
  refine ⟨fun g o hlatch => ?_, fun g o l hlatch hshort hspan => ?_, fun g o l hlatch hshort hspan => ?_,
    fun l p i d hd hlatch hc => ?_, fun l p i d hd hlatch hc => ?_, fun o p i d hd hlatch => ?_,
    fun g o n hn hlatch => ?_, fun g o hlatch => ?_⟩
  · rw [exec_listening (.opening g o) hs rfl nofun, hrest.processOpen hrest (incomplete_complete hlatch) rfl,
      State.needAnswers_none]
    refine ⟨fun hspan => ?_, fun hspan => ?_⟩
    · rw [if_pos (show g.toNat < s.heard.sc.params.span from hspan), (hrest.setLatch _).leaves]
      rfl
    · rw [if_neg (show ¬ g.toNat < s.heard.sc.params.span from Nat.not_lt.2 hspan), ((hrest.setLatch none).dropped _).leaves]
      rfl
  · have hdecided := hrest.needDecided l.granule
    rw [exec_listening (.opening g o) hs rfl nofun,
      hrest.processOpen hdecided (incomplete_short hlatch hshort) (hrest.decideNeed _ _), hneeds,
      if_pos (show g.toNat < (s.heard.needDecided l.granule).sc.params.span from hspan),
      (hdecided.setLatch _).answers_leaves hroom, State.replied_need]
    rfl
  · have hdecided := hrest.needDecided l.granule
    have hfilled : s.heard.sc.filled.filled = s.heard.sc.filled := Sc.filled_of_filling rfl
    have hevent : (⟨.discard, some g.toNat, .absent, s.eventPass, true, true⟩ : EventRecord) =
        ⟨.discard, some g.toNat, .absent, s.eventPass, true, (s.mgp.event.overrun || s.mgp.event.unread) || true⟩ := by
      rw [Bool.or_true]
    rw [exec_listening (.opening g o) hs rfl nofun,
      hrest.processOpen hdecided (incomplete_short hlatch hshort) (hrest.decideNeed _ _), hneeds,
      if_neg (show ¬ g.toNat < (s.heard.needDecided l.granule).sc.params.span from Nat.not_lt.2 hspan),
      ((hdecided.setLatch none).dropped _).answers_leaves hroom, hevent]
    simp only [State.oneFreed, State.replied_need, State.dropped, State.setLatch, State.setSr, State.needDecided, hfilled]
    rfl
  · rw [exec_listening (.line l.openNo p i d) hs (decide_eq_true hd) nofun, State.processHead,
      State.processLine_offered (u := s.heard) hlatch hc, (hrest.setLatch _).offers]
    rfl
  · rw [exec_listening (.line l.openNo p i d) hs (decide_eq_true hd) nofun, State.processHead,
      hrest.processLine_fenced hlatch hc, (hrest.fenced _ _).leaves]
    rfl
  · have hgranule : s.heard.discardGranule (.line o p i d) = s.sr.latch.map (·.granule) := rfl
    have hdetail : s.heard.discardDetail (.line o p i d) = (match s.sr.latch with
      | some l => .lineAddr (l.lineAddr i)
      | none => .absent) := rfl
    rw [exec_listening (.line o p i d) hs (decide_eq_true hd) nofun, State.processHead,
      hrest.processLine_unmatched hlatch, (hrest.dropped _).leaves, State.dropped, hgranule, hdetail]
    cases s.sr.latch <;> rfl
  · rw [exec_listening (.close g o) hs rfl nofun,
      hrest.processClose (v := s.heard) (need := none) ((congrArg (closeNeed · _ _) hlatch).trans (closeNeed_whole hn)) rfl,
      State.needAnswers_none, (hrest.setLatch none).leaves]
    rfl
  · have hframe : Frame.need g = .need (BitVec.ofNat 24 g.toNat) := by rw [BitVec.ofNat_toNat, BitVec.setWidth_eq]
    rw [exec_listening (.close g o) hs rfl nofun, hrest.processClose (closeNeed_other hlatch) (hrest.decideNeed _ _), hneeds,
      ((hrest.needDecided _).setLatch none).answers_leaves hroom, State.replied_need, hframe]
    rfl

end Sys2Proof.Machine

/-! ## MIRROR at a TARGET -/

namespace Sys2Proof.Machine

open Sys2Proof

variable {s u v : State} {q : BitVec 16} {a : BitVec 32} {m : ByteMask} {d : LineData} {f : Frame} {answers : List Answer}

/-! ### A MIRROR by its granule (R113) -/

/-- Outside the image it is discarded. -/
theorem State.Resting.judgeMirror_outside (h : u.Resting) (hg : u.sc.params.span ≤ a.toNat / 1024) :
    (u.withHead f).judgeMirror f q a m d answers = ((u.dropped f).withHead f).headBecomes answers none := by
  have hg' : (u.withHead f).sc.params.span ≤ granuleOf a.toNat := hg
  rw [State.judgeMirror, if_pos hg', h.discardTarget]

/-- Under a fence it is PROTECTED. -/
theorem State.Resting.judgeMirror_fenced (h : u.Resting) (hg : a.toNat / 1024 < u.sc.params.span)
    (hc : u.localCovers (a.toNat / 1024) = true) : (u.withHead f).judgeMirror f q a m d answers =
      ((u.fenced (a.toNat / 1024) a.toNat).withHead f).headBecomes answers none := by
  have hg' : ¬ (u.withHead f).sc.params.span ≤ granuleOf a.toNat := Nat.not_le.2 hg
  have hc' : (u.withHead f).localCovers (granuleOf a.toNat) = true := hc
  rw [State.judgeMirror, if_neg hg', if_pos hc', h.protect]
  rfl

/-- Otherwise it is offered for apply with its own mask. -/
theorem State.judgeMirror_offered (hg : a.toNat / 1024 < u.sc.params.span) (hc : u.localCovers (a.toNat / 1024) = false) :
    u.judgeMirror f q a m d answers =
      u.headBecomes answers (some ⟨false, a.setWidth 30, m, d, a.toNat / 1024, some q⟩) := by
  have hg' : ¬ u.sc.params.span ≤ granuleOf a.toNat := Nat.not_le.2 hg
  have hc' : ¬ u.localCovers (granuleOf a.toNat) = true := ne_true_of_eq_false hc
  rw [State.judgeMirror, if_neg hg', if_neg hc']
  rfl

/-- What a fence covers lies in the image (R11). -/
theorem State.localCovers_span {g : Nat} (h : u.localCovers g = true) : g < u.sc.params.span := by
  obtain ⟨f, -, hf⟩ := (fencesCover_iff _ _ _).1 h
  exact ((Fence.covers_iff _ _ _).1 hf).1

/-! ### A MIRROR by its sequence (R112) -/

/-- E past a MIRROR that is not behind it. -/
def State.expecting (u : State) (q : BitVec 16) : State := { u with sr := { u.sr with expected := q + 1 } }

/-- E past a MIRROR that follows a gap, with the LOSS decided (R112, R119, R121). -/
def State.lossDecided (u : State) (q : BitVec 16) (g : Nat) : State := { u with
  sr := { u.sr with expected := q + 1, clean := false }
  sc := u.sc.filled
  mgp := { u.mgp with event := u.captured .loss (some g) (.sequence u.sr.expected) } }

theorem State.Resting.expecting (h : u.Resting) (q : BitVec 16) : (u.expecting q).Resting := { h with }

theorem State.Resting.lossDecided (h : u.Resting) (q : BitVec 16) (g : Nat) : (u.lossDecided q g).Resting :=
  { (h.expecting q).cleared with }

/-- One already received is discarded. -/
theorem State.Resting.processMirror_behind (h : u.Resting) (hq : 32768 ≤ (q - u.sr.expected).toNat) :
    (u.withHead f).processMirror f q a m d = ((u.dropped f).withHead f).headBecomes [] none := by
  have hq' : 32768 ≤ (q - (u.withHead f).sr.expected).toNat := hq
  rw [State.processMirror, if_pos hq', h.discardTarget]

theorem State.processMirror_next (hq : q - u.sr.expected = 0) :
    (u.withHead f).processMirror f q a m d = ((u.expecting q).withHead f).judgeMirror f q a m d [] := by
  have hq' : q - (u.withHead f).sr.expected = 0 := hq
  rw [State.processMirror, hq', if_neg (by decide), if_pos rfl]
  rfl

theorem State.Resting.processMirror_gap (h : u.Resting) (h0 : q - u.sr.expected ≠ 0)
    (hq : (q - u.sr.expected).toNat < 32768) : (u.withHead f).processMirror f q a m d =
      ((u.lossDecided q (a.toNat / 1024)).withHead f).judgeMirror f q a m d
        [.loss u.sr.expected (q - u.sr.expected)] := by
  have hq' : ¬ 32768 ≤ (q - (u.withHead f).sr.expected).toNat := Nat.not_le.2 hq
  have h0' : ¬ q - (u.withHead f).sr.expected = 0 := h0
  let x := (u.withHead f).setSr { (u.withHead f).sr with expected := q + 1 }
  have hx : x.receiving = true := h.receiving
  have hdecided : x.decideLoss u.sr.expected (a.toNat / 1024) = (u.lossDecided q (a.toNat / 1024)).withHead f :=
    (if_pos hx).trans (State.clearClean_eq (u := x.capture .loss _ _) hx)
  rw [State.processMirror, if_neg hq', if_neg h0', ← hdecided]
  dsimp only
  rw [if_pos hx]
  rfl

/-- Settles O31: by the sequence, then by the granule, and the LOSS by its place in the return list. -/
theorem mirrorAtTarget : Obligations.MirrorAtTarget := by
  unfold Obligations.MirrorAtTarget
  intro q a m d s hs hd
  have hrest := State.Resting.of_listening hs
  have hroom : s.heard.st.returnList.length < 16 := Nat.lt_succ_of_lt (State.Resting.listening_room hs)
  dsimp only
  rw [exec_listening (.mirror q a m d) hs (decide_eq_true hd) nofun, State.processHead]
  refine ⟨fun hg hc h0 => ?_, fun hg hc h0 hq => ?_, fun hq => ?_, fun hq => ?_⟩
  · rw [State.processMirror_next (u := s.heard) h0, State.judgeMirror_offered (u := (s.heard.expecting q).withHead _) hg hc,
      (hrest.expecting q).offers]
    rfl
  · have hloss := hrest.lossDecided q (a.toNat / 1024)
    rw [hrest.processMirror_gap h0 hq, State.judgeMirror_offered (u := (s.heard.lossDecided q _).withHead _) hg hc,
      hloss.answers hroom, (hloss.replied _).offers, State.replied_loss]
    rfl
  · by_cases h0 : q - s.sr.expected = 0
    · have hnext := hrest.expecting q
      rw [State.processMirror_next (u := s.heard) h0]
      simp only [h0, if_true, ne_eq, not_true_eq_false, decide_false, Bool.or_false, List.append_nil]
      refine ⟨fun hg => ?_, fun hc => ?_⟩
      · rw [hnext.judgeMirror_outside hg, (hnext.dropped _).leaves]
        rfl
      · rw [hnext.judgeMirror_fenced (State.localCovers_span hc) hc, (hnext.fenced _ _).leaves]
        rfl
    · have hloss := hrest.lossDecided q (a.toNat / 1024)
      have hfilled : s.heard.sc.filled.filled = s.heard.sc.filled := Sc.filled_of_filling rfl
      rw [hrest.processMirror_gap h0 hq]
      simp only [h0, if_false, ne_eq, not_false_eq_true, decide_true]
      refine ⟨fun hg => ?_, fun hc => ?_⟩
      · rw [hloss.judgeMirror_outside hg, (hloss.dropped _).answers_leaves hroom, State.replied_loss]
        simp only [State.oneFreed, State.dropped, State.lossDecided, hfilled]
        rfl
      · rw [hloss.judgeMirror_fenced (State.localCovers_span hc) hc, (hloss.fenced _ _).answers_leaves hroom,
          State.replied_loss]
        simp only [State.oneFreed, State.fenced, State.lossDecided, hfilled]
        rfl
  · rw [hrest.processMirror_behind hq, (hrest.dropped _).leaves]
    rfl

end Sys2Proof.Machine

/-! ## The marks at a TARGET -/

namespace Sys2Proof.Machine

open Sys2Proof

variable {s u v : State} {f : Frame}

/-! ### The mark at the head (R118) -/

/-- The clean flag set (R118, R119). -/
def State.flaggedClean (u : State) : State := { u with sr := { u.sr with clean := true } }

/-- A pass report stored (R118). -/
def State.reported (u : State) (p d : Nat) : State := { u with sr := { u.sr with lastReport := some ⟨p, d⟩ } }

theorem State.Resting.flaggedClean (h : u.Resting) : u.flaggedClean.Resting := { h with }

theorem State.Resting.reported (h : u.Resting) (p d : Nat) : (u.reported p d).Resting := { h with }

/-- A mark on a TARGET that takes the copy stream (R118). -/
theorem exec_mark {k : MarkKind} {n : Byte} (hs : s.listening) : exec (.frameArrival (Frame.mark n k).bytes) s =
    .next (State.pumpFor 17 ((s.heard.withHead (.mark n k)).processMark (.mark n k) n k)) := by
  have hr : (s.heard.withHead (.mark n k)).receiving = true := (State.Resting.of_listening hs).receiving
  rw [exec_listening (.mark n k) hs rfl nofun, State.processHead, if_pos hr]

/-- A latch that is complete or empty is emptied with no more to do (R111). -/
theorem State.settleLatch_complete (h : incomplete u.sr.latch = none) :
    (u.withHead f).settleLatch = (u.setLatch none).withHead f := by
  have h' : incomplete (u.withHead f).sr.latch = none := h
  rw [State.settleLatch, h']
  rfl

/-- An incomplete latch is emptied behind the NEED for its granule (R111). -/
theorem State.Resting.settleLatch_short {g : Nat} (hu : u.Resting) (h : incomplete u.sr.latch = some g) :
    (u.withHead f).settleLatch = ((u.needDecided g).setLatch none).withHead f := by
  have h' : incomplete (u.withHead f).sr.latch = some g := h
  rw [State.settleLatch, h', State.decideNeedFor, hu.decideNeed]
  rfl

section OwnSession

variable {n : Byte} {answers : List Answer} (ha : u.needAnswers (incomplete u.sr.latch) = answers) (hv : u.settleLatch = v.withHead f)
  (hn : ¬ n ≠ u.sc.session)

include ha hv hn

/-- CUTOVER_BEGIN sets the clean flag (R118). -/
theorem State.processMark_cutoverBegin {a : Byte} : u.processMark f n (.cutoverBegin a) =
    (v.flaggedClean.withHead f).headBecomes answers none := by
  rw [State.processMark, if_neg hn, ha, hv]
  rfl

/-- PASS_END stores its report (R118). -/
theorem State.processMark_passEnd {p : BitVec 16} {d : BitVec 24} : u.processMark f n (.passEnd p d) =
    ((v.reported p.toNat d.toNat).withHead f).headBecomes answers none := by
  rw [State.processMark, if_neg hn, ha, hv]
  rfl

/-- CUTOVER_END in FILLING is answered READY behind the NEED (R118, R120). -/
theorem State.processMark_cutoverEnd (hf : u.targetIn .filling = true) :
    u.processMark f n .cutoverEnd = (v.withHead f).headBecomes (answers ++ [.ready]) none := by
  rw [State.processMark, if_neg hn, ha, hv]
  exact if_pos hf

/-- CUTOVER_END in SHADOW is discarded (R118). -/
theorem State.processMark_cutoverEnd_shadow (hr : v.Resting) (hf : u.targetIn .filling = false) :
    u.processMark f n .cutoverEnd = ((v.dropped f).withHead f).headBecomes answers none := by
  rw [State.processMark, if_neg hn, ha, hv, ← hr.discardTarget]
  exact if_neg (ne_true_of_eq_false hf)

end OwnSession

/-- SYNC_LOST and CUTOVER_ABORT end SHADOW (R118, R142). -/
theorem State.Resting.processMark_ends (h : u.Resting) {n : Byte} {k : MarkKind} (hn : ¬ n ≠ u.sc.session)
    (hk : k = .syncLost ∨ ∃ a, k = .cutoverAbort a) : (u.withHead f).processMark f n k =
      (({ u with sc := u.sc.filled } : State).withHead f).headBecomes [] none := by
  have hreturn : (u.withHead f).returnToFilling = ({ u with sc := u.sc.filled } : State).withHead f :=
    State.returnToFilling_eq (u := u.withHead f) h.receiving
  have hown : ¬ n ≠ (u.withHead f).sc.session := hn
  rw [State.processMark, if_neg hown, ← hreturn]
  obtain rfl | ⟨a, rfl⟩ := hk
  · rfl
  · rfl

/-- RELEASE frees its slot and takes effect (R118, R141). -/
theorem State.Resting.processMark_release (h : u.Resting) {n : Byte} (hn : ¬ n ≠ u.sc.session) :
    (u.withHead f).processMark f n .release = u.oneFreed.releaseTaken := by
  have hleave : (u.withHead f).headBecomes [] none = u.oneFreed := (if_pos ⟨rfl, rfl⟩).trans (h.leaveHead f)
  have hown : ¬ n ≠ (u.withHead f).sc.session := hn
  rw [State.processMark, if_neg hown, ← hleave]

/-- A mark of another session is discarded (R118). -/
theorem State.Resting.processMark_other (h : u.Resting) {n : Byte} {k : MarkKind} (hn : n ≠ u.sc.session) :
    (u.withHead f).processMark f n k = ((u.dropped f).withHead f).headBecomes [] none := by
  have hn' : n ≠ (u.withHead f).sc.session := hn
  rw [State.processMark, if_pos hn', h.discardTarget]

/-! ### READY (R120) and RELEASE (R141) -/

/-- READY(OK) enters SHADOW. -/
theorem State.replied_ready_ok (h : u.sr.clean = true) : u.replied .ready = { u with
    st := { u.st with returnList := u.st.returnList ++ [.ready u.sc.session true] }
    sc := { u.sc with state := .shadow } } := if_pos h

/-- READY(RETRY) sets the clean flag again. -/
theorem State.replied_ready_retry (h : u.sr.clean = false) : u.replied .ready = { u with
    st := { u.st with returnList := u.st.returnList ++ [.ready u.sc.session false] }
    sr := { u.sr with clean := true } } := if_neg (ne_true_of_eq_false h)

/-- The entry into IDLE empties the freed count with the buffer (R146). -/
theorem State.leftTarget_oneFreed (u : State) : u.oneFreed.leftTarget = u.leftTarget := by
  simp only [State.leftTarget, State.oneFreed, State.droppedTable]

/-- RELEASE in SHADOW: IDLE with SYNCED, unless UNSYNCED_TAKEOVER is set, and RELEASED (R141, R147). -/
theorem State.releaseTaken_shadow (h : u.targetIn .shadow = true) : u.releaseTaken = { u.leftTarget with
    sc := { u.leftTarget.sc with synced := u.sc.synced || !u.sc.unsynced }
    au := { u.au with latch := u.au.latch ||| 0x800#12 } } := by
  rw [State.releaseTaken, if_pos h]
  exact State.endTarget_eq _

/-- RELEASE in FILLING completes a pending takeover (R141, R144). -/
theorem State.releaseTaken_takeover (h : u.targetIn .shadow = false) (ht : u.sc.takeoverPending = true) :
    u.releaseTaken = u.leftTarget := by
  rw [State.releaseTaken, if_neg (ne_true_of_eq_false h), if_pos ht, State.endTarget_eq]

/-- A TARGET that has entered FAULT, with what is left of the head frame: no answers, no CREDIT due, the timers stopped (R123, R136). -/
def State.targetFaulted (u : State) (r : FaultReason) (head : Option Head) : State := { u with
  st := { u.st with returnList := [], keepalive := ⟨false, u.st.keepalive.count⟩ }
  sr := { u.sr with head := head, creditDue := false, silent := { u.sr.silent with running := false } }
  sc := { u.sc with state := .fault, faultReason := some r }
  au := { u.au with latch := u.au.latch ||| 0x200#12 } }

theorem State.targetFault_eq {r : FaultReason} {head : Option Head} (h : u.sr.dropAnswers = { u.sr with head := head }) :
    u.targetFault r = u.targetFaulted r head := by
  rw [State.targetFault]
  simp only [State.setSt_sr, h]
  rfl

theorem Sr.dropAnswers_none {x : Sr} (h : x.head = none) : x.dropAnswers = { x with head := none } := by
  have hsame : { x with head := none } = x := by rw [← h]
  rw [hsame, Sr.dropAnswers, h]

/-- RELEASE in FILLING with no takeover pending is FAULT, its own frame having left the head (R141). -/
theorem State.releaseTaken_fault (h : u.targetIn .shadow = false) (ht : u.sc.takeoverPending = false)
    (hh : u.sr.head = none) : u.releaseTaken = u.targetFaulted .releasedUnsynced none := by
  rw [State.releaseTaken, if_neg (ne_true_of_eq_false h), if_neg (ne_true_of_eq_false ht),
    State.targetFault_eq (Sr.dropAnswers_none hh)]

/-- A TARGET that takes no copy stream has no claim but a waiting TAKEN, and with an empty buffer nothing to process. -/
theorem State.pumpFor_closed (n : Nat) (hr : u.receiving = false) (ht : u.sc.takenWaiting = false) (hb : u.sr.buffer = []) :
    State.pumpFor n u = u :=
  State.pumpFor_settled _ _ (State.placeable_rests ht fun h => absurd h (ne_true_of_eq_false hr)) (State.unprocessed_none hb)

theorem State.receiving_of_state (h : u.sc.state ≠ .filling ∧ u.sc.state ≠ .shadow) : u.receiving = false := by
  simp [State.receiving_eq, h]

/-- Settles O32: the latch by what it held, then the mark by its kind, and READY by the clean flag. -/
theorem marksAtTarget : Obligations.MarksAtTarget := by
  unfold Obligations.MarksAtTarget
  intro s hs
  have hrest := State.Resting.of_listening hs
  have hrole : s.sc.role = .target := s.receiving_role hrest.receiving
  have hroom : s.heard.st.returnList.length < 16 := Nat.lt_succ_of_lt (State.Resting.listening_room hs)
  have hfilling : s.sc.state = .filling → s.heard.targetIn .filling = true := fun h => by
    simp [State.targetIn, State.heard, hrole, h]
  have hshadow : s.sc.state = .shadow → s.heard.targetIn .filling = false := fun h => by
    simp [State.targetIn, State.heard, h]
  have hown : ¬ s.sc.session ≠ s.heard.sc.session := not_not.2 rfl
  dsimp only
  refine ⟨fun hlatch => ?_, fun l hlatch hshort => ?_, fun k hk => ?_, fun h => ?_, fun h ht => ?_, fun h ht => ?_,
    fun n k hn => ?_⟩
  · have hnone : incomplete s.heard.sr.latch = none := incomplete_complete hlatch
    have ha (f : Frame) : (s.heard.withHead f).needAnswers (incomplete (s.heard.withHead f).sr.latch) = [] :=
      congrArg _ hnone
    have hv (f : Frame) := State.settleLatch_complete (f := f) hnone
    have hempty := hrest.setLatch none
    refine ⟨fun a => ?_, fun p d => ?_, fun h hc => ?_, fun h hc => ?_, fun h => ?_⟩
    · rw [exec_mark hs, State.processMark_cutoverBegin (ha _) (hv _) hown, hempty.flaggedClean.leaves]
      rfl
    · rw [exec_mark hs, State.processMark_passEnd (ha _) (hv _) hown, (hempty.reported _ _).leaves]
      rfl
    · rw [exec_mark hs, State.processMark_cutoverEnd (ha _) (hv _) hown (hfilling h), List.nil_append,
        hempty.answers_leaves hroom, State.replied_ready_ok (u := s.heard.setLatch none) hc]
      rfl
    · rw [exec_mark hs, State.processMark_cutoverEnd (ha _) (hv _) hown (hfilling h), List.nil_append,
        hempty.answers_leaves hroom, State.replied_ready_retry (u := s.heard.setLatch none) hc]
      rfl
    · rw [exec_mark hs, State.processMark_cutoverEnd_shadow (ha _) (hv _) hown hempty (hshadow h),
        (hempty.dropped _).leaves]
      rfl
  · have hsome : incomplete s.heard.sr.latch = some l.granule := incomplete_short hlatch hshort
    have ha (f : Frame) : (s.heard.withHead f).needAnswers (incomplete (s.heard.withHead f).sr.latch) = [.need l.granule] :=
      (congrArg _ hsome).trans (State.needAnswers_some hrest.receiving _)
    have hv (f : Frame) := hrest.settleLatch_short (f := f) hsome
    have hneeded := (hrest.needDecided l.granule).setLatch none
    refine ⟨fun a => ?_, fun p d => ?_, fun h => ?_⟩
    · rw [exec_mark hs, State.processMark_cutoverBegin (ha _) (hv _) hown, hneeded.flaggedClean.answers_leaves hroom,
        State.replied_need]
      simp only [State.oneFreed, State.flaggedClean, State.setLatch, State.setSr, State.needDecided]
      rfl
    · rw [exec_mark hs, State.processMark_passEnd (ha _) (hv _) hown, (hneeded.reported _ _).answers_leaves hroom,
        State.replied_need]
      simp only [State.oneFreed, State.reported, State.setLatch, State.setSr, State.needDecided]
      rfl
    · have hroom' : ((s.heard.needDecided l.granule).setLatch none |>.replied (.need l.granule)).st.returnList.length < 16 := by
        have hlt := State.Resting.listening_room hs
        simp only [State.replied_need, State.setLatch, State.setSr, State.needDecided, List.length_append,
          List.length_singleton]
        omega
      rw [exec_mark hs, State.processMark_cutoverEnd (ha _) (hv _) hown (hfilling h), List.singleton_append,
        hneeded.answers hroom, (hneeded.replied _).answers_leaves hroom', State.replied_ready_retry rfl]
      simp only [State.oneFreed, State.replied_need, State.setLatch, State.setSr, State.needDecided, List.append_assoc,
        List.singleton_append]
      rfl
  · have ht : ({ s.heard with sc := s.heard.sc.filled } : State).Resting := hrest.setSc rfl (.inl rfl) rfl
    rw [exec_mark hs, hrest.processMark_ends hown hk, ht.leaves]
    rfl
  · have hin : s.heard.oneFreed.targetIn .shadow = true := by simp [State.targetIn, State.heard, State.oneFreed, hrole, h]
    rw [exec_mark hs, hrest.processMark_release hown, State.releaseTaken_shadow hin, State.leftTarget_oneFreed]
    exact congrArg _ (State.pumpFor_closed _ (State.receiving_of_state ⟨nofun, nofun⟩) rfl rfl)
  · have hin : s.heard.oneFreed.targetIn .shadow = false := by simp [State.targetIn, State.heard, State.oneFreed, h]
    rw [exec_mark hs, hrest.processMark_release hown, State.releaseTaken_takeover hin ht, State.leftTarget_oneFreed]
    exact congrArg _ (State.pumpFor_closed _ (State.receiving_of_state ⟨nofun, nofun⟩) rfl rfl)
  · have hin : s.heard.oneFreed.targetIn .shadow = false := by simp [State.targetIn, State.heard, State.oneFreed, h]
    have hclosed : (s.heard.oneFreed.targetFaulted .releasedUnsynced none).receiving = false :=
      State.receiving_of_state ⟨nofun, nofun⟩
    rw [exec_mark hs, hrest.processMark_release hown, State.releaseTaken_fault hin ht hrest.head,
      State.pumpFor_closed _ hclosed hrest.takenWaiting hrest.buffer, hrest.creditDue, hrest.head]
    rfl
  · rw [exec_mark hs, hrest.processMark_other hn, (hrest.dropped _).leaves]
    rfl

end Sys2Proof.Machine

/-! ## Frames that are discarded -/

namespace Sys2Proof.Machine

open Sys2Proof

variable {s u : State} {f : Frame}

/-! ### Frames that no role and state takes (R107, R122) -/

theorem State.takeFrame_keep (u : State) : u.takeFrame .keep = u := by
  rw [State.takeFrame]
  cases u.sc.role <;> rfl

/-- A part with no role discards (R107). -/
theorem State.idleFrame_discards (hk : f ≠ .keep) : u.idleFrame f = u.discard f := by
  cases f with
  | keep => exact absurd rfl hk
  | _ => rfl

/-- A TARGET in IDLE discards (R107). -/
theorem State.targetFrame_idle (hk : f ≠ .keep) (hs : u.sc.state = .idle) : u.targetFrame f = u.discard f := by
  cases f with
  | keep => exact absurd rfl hk
  | _ => simp only [State.targetFrame, hs]

/-- A TARGET in LISTEN or FAULT takes a HELLO alone (R107). -/
theorem State.targetFrame_waiting (hk : f ≠ .keep) (hs : u.sc.state = .listen ∨ u.sc.state = .fault)
    (hh : ∀ n sp q, f ≠ .hello n sp q) : u.targetFrame f = u.discard f := by
  cases f with
  | keep => exact absurd rfl hk
  | hello n sp q => exact absurd rfl (hh n sp q)
  | _ =>
    obtain hs | hs := hs
    · simp only [State.targetFrame, hs]
    · simp only [State.targetFrame, hs]

/-- A SOURCE discards the frames that only a SOURCE sends (R122). -/
theorem State.sourceFrame_fromSource (h : f.fromSource = true) : u.sourceFrame f = u.discard f := by
  cases f with
  | keep | reply | credit | need | loss | ready | taken => cases h
  | _ => rfl

/-- A SOURCE in a sending state is in no HANDSHAKE. -/
theorem State.sending_not_handshake (h : u.sending = true) : u.sc.state ≠ .handshake := fun hs => by
  simp [State.sending, hs] at h

/-- A SOURCE in a sending state discards every REPLY, and a READY or TAKEN of another session (R122). -/
theorem State.sourceFrame_unwanted (hs : u.sending = true) (h : f.unwantedBySender u.sc.session = true) :
    u.sourceFrame f = u.discard f := by
  cases f with
  | reply n a fs => exact if_neg fun hshake => u.sending_not_handshake hs hshake.1
  | ready n ok => exact if_pos (by simpa [Frame.unwantedBySender] using h)
  | taken n =>
    have hn : n ≠ u.sc.session := by simpa [Frame.unwantedBySender] using h
    exact if_neg fun htaken => hn htaken.2
  | _ => cases h

/-- A SOURCE in no sending state takes a READY of its session, and in HANDSHAKE a REPLY of its session, alone (R122). -/
theorem State.sourceFrame_resting (hk : f ≠ .keep) (hs : u.sending = false) (hr : ∀ ok, f ≠ .ready u.sc.session ok)
    (hp : u.sc.state = .handshake → ∀ a fs, f ≠ .reply u.sc.session a fs) : u.sourceFrame f = u.discard f := by
  have hs : ¬ u.sending = true := ne_true_of_eq_false hs
  cases f with
  | keep => exact absurd rfl hk
  | reply n a fs =>
    refine if_neg fun ⟨hshake, hn⟩ => hp hshake a fs ?_
    rw [hn]
  | credit n a => exact if_neg hs
  | need g => exact if_neg hs
  | loss e d => exact if_neg hs
  | ready n ok =>
    refine if_pos fun hn => hr ok ?_
    rw [hn]
  | taken n => exact if_neg fun htaken => hs htaken.1
  | _ => rfl

/-! ### Frames lost (R104, R108, R198) -/

/-- A frame at a full receive buffer, with nothing to claim and its head on offer (R108). -/
theorem State.enterBuffer_full {w : Option ApplyWrite} (hr : u.receiving = true) (hb : 32 ≤ u.sr.buffer.length)
    (hh : u.sr.head = some ⟨[], w⟩) (hc : u.sr.creditDue = false) (hf : u.sr.freed < 7) (ht : u.sc.takenWaiting = false)
    (hfa : u.sr.failedApply = []) (f : Frame) :
    u.enterBuffer f = (({ u.dropped f with sr := { (u.dropped f).sr with overflow := true } } : State)).oneFreed := by
  let full : State := { u.dropped f with sr := { (u.dropped f).sr with overflow := true } }
  have hfreed : full.raiseFreed = full.oneFreed := State.raiseFreed_early hc hf
  have hover : u.enterBuffer f = (((u.discardTarget f).setSr { (u.discardTarget f).sr with overflow := true }).raiseFreed).pump :=
    if_pos hb
  rw [hover, State.discardTarget_eq hr]
  refine (congrArg State.pump hfreed).trans (State.pump_settled _ ?_ ?_)
  · exact State.placeable_rests ht fun _ => ⟨hfa, hc, .inr ⟨w, hh⟩⟩
  · refine State.unprocessed_head fun hnone => ?_
    cases hnone.symm.trans hh

/-- A frame of the wrong direction at the head is discarded (R107). -/
theorem State.Resting.processHead_misdirected (h : u.Resting) (hk : f ≠ .keep) (hf : f.fromSource = false) :
    (u.withHead f).processHead f = ((u.dropped f).withHead f).headBecomes [] none := by
  have hr : (u.withHead f).receiving = true := h.receiving
  cases f with
  | keep => exact absurd rfl hk
  | hello | opening | line | close | mirror | mark => cases hf
  | _ => rw [State.processHead, if_pos hr, h.discardTarget]

/-- A lost frame means nothing to a part that is in no session's stream (R104). -/
theorem State.lostFrame_outside (n : Nat) (hs : u.sending = false) (hr : u.receiving = false) : u.lostFrame n = u := by
  simp [State.lostFrame, hs, hr]

/-- A lost frame may be an answer lost: a SOURCE in a sending state enters FAULT (R104, R135). -/
theorem State.lostFrame_sending (n : Nat) (hs : u.sending = true) : u.lostFrame n = { u.leftSource .fault none with
    sc := { (u.leftSource .fault none).sc with faultReason := some .answerLost }
    au := { u.au with latch := u.au.latch ||| 0x100#12 ||| 0x200#12 } } := by
  have hr : u.receiving = false := by simp [State.receiving_eq, u.sending_role hs]
  rw [State.lostFrame, if_neg (ne_true_of_eq_false hr), if_pos hs, State.sourceLinkLoss, State.flushSource_eq]
  rfl

/-- A KEEP lost at a TARGET frees no slot (R104). -/
theorem State.lostFrame_keep (hr : u.receiving = true) : u.lostFrame 3 = u := if_pos hr

/-- Any other frame lost at a TARGET frees the slot it would have taken, and clears the clean flag (R104, R119). -/
theorem State.Resting.lostFrame {n : Nat} (h : u.Resting) (hn : n ≠ 3) : u.lostFrame n = u.cleared.oneFreed := by
  have hlost : u.lostFrame n = (u.raiseFreed.clearClean).pump := (if_pos h.receiving).trans (if_neg hn)
  have hr : u.oneFreed.receiving = true := h.receiving
  rw [hlost, State.raiseFreed_early h.creditDue h.freed, State.clearClean_eq hr]
  exact State.pump_settled _ (State.placeable_none h.takenWaiting h.failedApply h.head h.creditDue)
    (State.unprocessed_none h.buffer)

/-- The detail of a malformed frame's event, an empty body having no kind byte (R198). -/
theorem malformedDetail_eq (body : List Byte) : malformedDetail body = if body.headD 0 ∈
    [0x01, 0x02, 0x03, 0x04, 0x05, 0x06, 0x07, 0x11, 0x12, 0x13, 0x14, 0x15, 0x16] then .frameKind (body.headD 0)
    else .absent := by
  cases body with
  | nil => rfl
  | cons k ps => exact if_congr List.contains_iff_mem rfl rfl

/-- A discard that names nothing but its detail (R104, R198). -/
def State.lost (u : State) (detail : Detail) : State := { u with mgp := { u.mgp with
  counters := { u.mgp.counters with discarded := min 16777215 (u.mgp.counters.discarded + 1) }
  event := u.captured .discard none detail } }

theorem exec_crcFailed {bs : List Byte} (hp : s.phase = .running) (hl : s.sc.linkUp = true) (hc : crcChecks bs = false) :
    exec (.frameArrival bs) s = .next (((s.setOut []).lost .absent).lostFrame bs.length) := by
  have hrun : exec (.frameArrival bs) s = .next ((s.setOut []).receive bs) := event_running s (·.receive bs) hp
  have hup : ¬ (!(s.setOut []).sc.linkUp) = true := by simp [hl]
  have hbad : (!crcChecks bs) = true := by rw [hc, Bool.not_false]
  rw [hrun, State.receive, if_neg hup, if_pos hbad]
  rfl

theorem exec_malformed {bs : List Byte} (hp : s.phase = .running) (hl : s.sc.linkUp = true) (hc : crcChecks bs = true)
    (hf : parseFrame (frameBody bs) = none) :
    exec (.frameArrival bs) s = .next ((s.heard.lost (malformedDetail (frameBody bs))).lostFrame bs.length) := by
  have hrun : exec (.frameArrival bs) s = .next ((s.setOut []).receive bs) := event_running s (·.receive bs) hp
  have hup : ¬ (!(s.setOut []).sc.linkUp) = true := by simp [hl]
  have hgood : ¬ (!crcChecks bs) = true := by simp [hc]
  rw [hrun, State.receive, if_neg hup, if_neg hgood, hf, State.restartSilent_setOut]
  rfl

/-- Settles O23: the frames that arrive whole by role and state, the lost ones by what their loss means. -/
theorem framesDiscarded : Obligations.FramesDiscarded := by
  unfold Obligations.FramesDiscarded
  refine ⟨fun f s hp hl hf => ?_, fun bs s hp hl heard detail hlost => ?_⟩
  · have htaken := exec_frameArrival hp hl (parse_body hf)
    dsimp only
    refine ⟨fun hk => ?_, fun hk hcase => ?_, fun w hk hr hb hh hc hfr ht hfa => ?_, fun hk hdir hs => ?_⟩
    · rw [htaken, hk, State.takeFrame_keep]
    · have hdiscard : s.heard.takeFrame f = s.heard.discard f := by
        rw [State.takeFrame]
        obtain hr | ⟨hr, hs⟩ | ⟨hr, hs, hh⟩ | ⟨hr, hsrc⟩ | ⟨hs, hun⟩ | ⟨hr, hs, hready, hreply⟩ := hcase
        · rw [show s.heard.sc.role = .none from hr]
          exact State.idleFrame_discards hk
        · rw [show s.heard.sc.role = .target from hr]
          exact State.targetFrame_idle hk hs
        · rw [show s.heard.sc.role = .target from hr]
          exact State.targetFrame_waiting hk hs hh
        · rw [show s.heard.sc.role = .source from hr]
          exact State.sourceFrame_fromSource hsrc
        · rw [show s.heard.sc.role = .source from s.sending_role hs]
          exact State.sourceFrame_unwanted hs hun
        · rw [show s.heard.sc.role = .source from hr]
          exact State.sourceFrame_resting hk hs hready hreply
      rw [htaken, hdiscard]
      rfl
    · have hr' : s.heard.receiving = true := hr
      rw [htaken, State.takeFrame_receiving hr' hk, State.enterBuffer_full hr' hb hh hc hfr ht hfa]
      rfl
    · have hrest := State.Resting.of_listening hs
      rw [exec_listening f hs hf hk, hrest.processHead_misdirected hk hdir, (hrest.dropped f).leaves]
      rfl
  · have hrun : exec (.frameArrival bs) s = .next ((heard.lost detail).lostFrame bs.length) := by
      obtain ⟨hc, rfl, rfl⟩ | ⟨hc, hnone, rfl, rfl⟩ := hlost
      · exact exec_crcFailed hp hl hc
      · rw [exec_malformed hp hl hc hnone, malformedDetail_eq]
    obtain ⟨silent, rfl⟩ : ∃ x, heard = { s with out := [], sr := { s.sr with silent := x } } := by
      obtain ⟨-, rfl, -⟩ | ⟨-, -, rfl, -⟩ := hlost
      · exact ⟨s.sr.silent, rfl⟩
      · exact ⟨_, rfl⟩
    dsimp only
    rw [hrun]
    refine ⟨fun hs hr => ?_, fun hs => ?_, fun hr hn => ?_, fun hr hn hc hfr ht hfa hb hh => ?_⟩
    · exact congrArg _ (State.lostFrame_outside _ hs hr)
    · exact congrArg _ (State.lostFrame_sending _ hs)
    · rw [hn]
      exact congrArg _ (State.lostFrame_keep hr)
    · have hrest : (State.lost { s with out := [], sr := { s.sr with silent := silent } } detail).Resting :=
        ⟨hr, hb, hh, hfa, hc, ht, hfr⟩
      rw [hrest.lostFrame hn]
      rfl

end Sys2Proof.Machine

/-! ## READY at a SOURCE -/

namespace Sys2Proof.Machine

open Sys2Proof

variable {s u : State} {ok : Bool}

/-- A READY of the session at a SOURCE (R122). -/
theorem exec_ready (hp : s.phase = .running) (hl : s.sc.linkUp = true) (hr : s.sc.role = .source) :
    exec (.frameArrival (Frame.ready s.sc.session ok).bytes) s =
      .next (if s.heard.sc.state = .cutover ∧ s.heard.sc.awaitingReady = true then s.heard.takeReady ok
        else s.heard.count .readyLate) := by
  have hr' : s.heard.sc.role = .source := hr
  have hown : ¬ s.sc.session ≠ s.heard.sc.session := not_not.2 rfl
  rw [exec_frameArrival hp hl (parse_ready _ _), State.takeFrame, hr']
  exact congrArg _ (if_neg hown)

/-- OK with D at 0 ends the cutover: hold is released and SHADOW entered (R167). -/
theorem State.takeReady_done (hd : u.d = 0) : u.takeReady true = { u with
    cp := { u.cp with hold := false }
    sc := { u.sc with
      state := .shadow
      holdTimer := ⟨false, u.sc.holdTimer.count⟩
      awaitingReady := false }
    cvu := { u.cvu with attempts := 0 }
    au := { u.au with latch := u.au.latch ||| 0x004#12 } } := by
  rw [State.takeReady, if_pos (by simp [hd])]
  rfl

/-- Any other READY restarts the final scan, an OK behind a SYNC_LOST mark (R168, R169). -/
theorem State.takeReady_again (h : ok = false ∨ u.d ≠ 0) : u.takeReady ok =
    (if ok then (u.setSc { u.sc with awaitingReady := false }).appendMark .syncLost
      else u.setSc { u.sc with awaitingReady := false }).startScan := by
  have hnot : ¬ (ok && u.d == 0) = true := by
    obtain h | h := h
    · simp [h]
    · simp [h]
  rw [State.takeReady, if_neg hnot]

/-- With granules still to copy the scan goes on from the first (R78). -/
theorem State.startScan_runs (hd : 0 < u.d) : u.startScan =
    { u with se := { u.se with running := true, waiting := false, scanIdx := 0 } } := by
  have hd' : ¬ (u.setSe { u.se with running := true, waiting := false, scanIdx := 0 }).d = 0 := Nat.ne_of_gt hd
  rw [State.startScan, if_neg hd']
  rfl

/-- Settles O26: an awaited READY by its answer and D, any other by READY_LATE. -/
theorem readyTaken : Obligations.ReadyTaken := by
  unfold Obligations.ReadyTaken
  intro ok s hp hl hr
  dsimp only
  rw [exec_ready hp hl hr]
  refine ⟨fun hs ha hok hd => ?_, fun hs ha hd hlen hpend => ?_, fun hs ha hok hd hlen hpend => ?_, fun hlate => ?_⟩
  · rw [if_pos ⟨hs, ha⟩, hok, State.takeReady_done (u := s.heard) hd]
    rfl
  · rw [if_pos ⟨hs, ha⟩, State.takeReady_again (u := s.heard) (.inr (Nat.ne_of_gt hd))]
    let settled : State := s.heard.setSc { s.heard.sc with awaitingReady := false }
    cases ok with
    | true =>
      rw [if_pos rfl, settled.appendMark_plain .syncLost hlen hpend]
      refine congrArg _ ((State.startScan_runs ?_).trans ?_)
      · exact hd
      · rfl
    | false =>
      have hrun : settled.startScan = _ := State.startScan_runs hd
      rw [if_neg Bool.false_ne_true, if_neg Bool.false_ne_true, List.append_nil]
      exact congrArg _ hrun
  · rw [if_pos ⟨hs, ha⟩, State.takeReady_again (u := s.heard) (.inl hok), hok, if_neg Bool.false_ne_true,
      State.startScan_eq (s.heard.setSc { s.heard.sc with awaitingReady := false }) hlen hpend]
    have hd' : (s.heard.setSc { s.heard.sc with awaitingReady := false }).d = 0 := hd
    rw [hd']
    rfl
  · have hnot : ¬ (s.heard.sc.state = .cutover ∧ s.heard.sc.awaitingReady = true) := fun ⟨hs, ha⟩ =>
      hlate.elim (absurd hs) fun hn => absurd ha (ne_true_of_eq_false hn)
    rw [if_neg hnot]
    rfl

end Sys2Proof.Machine

/-! ## The link of a TARGET -/

namespace Sys2Proof.Machine

open Sys2Proof

variable {s u : State} {f : Frame} {w : ApplyWrite} {q : BitVec 16} {a : BitVec 32} {m : ByteMask} {d : LineData}
  {rest : List Frame}

/-! ### Link loss on a TARGET (R106, R134, R136) -/

theorem exec_linkDown (hp : s.phase = .running) : exec .linkDown s = .next (s.setOut []).linkGoesDown :=
  event_running s State.linkGoesDown hp

theorem exec_silentLimit (hp : s.phase = .running) : exec .silentLimitExpiry s = .next (s.setOut []).silentExpired :=
  event_running s State.silentExpired hp

/-- The link state of a link that is down (R134). -/
def State.unlinked (u : State) : State := { u with sc := { u.sc with linkUp := false } }

/-- The silent timer at its limit counts from 0 again (R106). -/
def State.silentFired (u : State) : State :=
  { u with sr := { u.sr with silent := ⟨u.sr.silent.running, 0, u.sc.params.sl⟩ } }

/-- LINK_DOWN where a session of a TARGET is lost (R134, R136, R144). -/
theorem State.linkGoesDown_target (ht : u.transmitting = false)
    (h : u.receiving = true ∨ u.sc.role = .target ∧ u.sc.takeoverPending = true) :
    u.linkGoesDown = u.unlinked.targetLinkLoss .linkDown := by
  have hcond : (u.receiving || (u.sc.role == .target && u.sc.takeoverPending)) = true := by
    obtain h | ⟨hr, hp⟩ := h
    · rw [h, Bool.true_or]
    · simp [hr, hp]
  exact (if_neg (ne_true_of_eq_false ht)).trans (if_pos hcond)

/-- LINK_DOWN where none is (R134). -/
theorem State.linkGoesDown_other (ht : u.transmitting = false) (hr : u.receiving = false)
    (hp : u.sc.role = .target → u.sc.takeoverPending = false) :
    u.linkGoesDown = u.unlinked := by
  have hcond : ¬ (u.receiving || (u.sc.role == .target && u.sc.takeoverPending)) = true := by
    simpa [hr] using hp
  exact (if_neg (ne_true_of_eq_false ht)).trans (if_neg hcond)

/-- The silent limit on a TARGET that takes the copy stream (R106). -/
theorem State.silentExpired_target (hrun : u.sr.silent.running = true) (hr : u.receiving = true) :
    u.silentExpired = u.silentFired.targetLinkLoss .silent := by
  have hsend : ¬ u.sending = true := by
    obtain ⟨hrole, -⟩ := u.receiving_session hr
    simp [State.sending, hrole]
  exact (if_pos hrun).trans ((if_neg hsend).trans (if_pos hr))

/-- An apply write accepted at the head loses the answers before it and nothing else (R123). -/
theorem Sr.dropAnswers_apply {x : Sr} {answers : List Answer} (h : x.head = some ⟨answers, some w⟩) :
    x.dropAnswers = { x with head := some ⟨[], some w⟩ } := by
  rw [Sr.dropAnswers, h]

/-- In FAULT nothing is claimed, and the head's write waits for its grant (R123, R136). -/
theorem State.targetLinkLoss_fault {r : FaultReason} {head : Option Head} (hp : u.sc.takeoverPending = false)
    (ht : u.sc.takenWaiting = false) (hd : u.sr.dropAnswers = { u.sr with head := head })
    (hb : head = none → u.sr.buffer = []) :
    u.targetLinkLoss r = (u.targetFaulted r head).raise .linkLost := by
  rw [State.targetLinkLoss, if_neg (ne_true_of_eq_false hp), State.targetFault_eq hd]
  have hclosed : ((u.targetFaulted r head).raise .linkLost).receiving = false := State.receiving_of_state ⟨nofun, nofun⟩
  exact State.pump_settled _ (State.placeable_rests ht fun h => absurd h (ne_true_of_eq_false hclosed))
    (State.unprocessed_head hb)

/-- With a takeover pending it completes (R144). -/
theorem State.targetLinkLoss_takeover {r : FaultReason} (hp : u.sc.takeoverPending = true) :
    u.targetLinkLoss r = (u.setSc { u.sc with synced := u.sc.synced || !u.sc.unsynced }).leftTarget :=
  (if_pos hp).trans u.takeoverComplete_eq

/-! ### The drain in FAULT (R112, R123) -/

/-- In FAULT the head's write is on offer whatever is outstanding (R114, R123). -/
theorem State.ownReady_of_drain {t : Nat} (hf : s.targetIn .fault = true) (hh : s.sr.head = some ⟨[], some w⟩)
    (ht : s.freeOwnTag = some t) : s.ownReady = some (t, .apply w) := by
  have hrole : s.sc.role = .target := by
    simp only [State.targetIn, Bool.and_eq_true, beq_iff_eq] at hf
    exact hf.1
  have hoffer : s.ownOffer = some (.apply w) := by simp [State.ownOffer, hrole, State.offeredApply, hh, hf]
  simp [State.ownReady, ht, hoffer]

/-- The frame of an apply write has left the head in FAULT, its slot not counted as freed (R114, R123). -/
def State.drained (u : State) (w : ApplyWrite) (rest : List Frame) : State := { u with
  sr := { u.sr with buffer := rest, head := none, lastGranted := w.seq.getD u.sr.lastGranted } }

theorem State.applyGranted_drained (hr : u.receiving = false) (hb : u.sr.buffer = f :: rest) :
    u.applyGranted w = u.drained w rest := by
  have htail : u.sr.buffer.tail = rest := congrArg List.tail hb
  have hleave : u.leaveHead = u.setSr { u.sr with buffer := rest, head := none } := by
    rw [State.leaveHead, htail]
    exact if_neg (ne_true_of_eq_false hr)
  rw [State.applyGranted, hleave]
  cases h : w.seq <;> simp only [State.drained, h] <;> rfl

theorem State.receiving_of_fault (hf : u.targetIn .fault = true) : u.receiving = false := by
  refine State.receiving_of_state ?_
  simp only [State.targetIn, Bool.and_eq_true, beq_iff_eq] at hf
  rw [hf.2]
  exact ⟨nofun, nofun⟩

theorem exec_arbitration_drain {t : Nat} (hp : s.phase = .running) (hf : s.targetIn .fault = true)
    (hb : s.sr.buffer = f :: rest) (hh : s.sr.head = some ⟨[], some w⟩) (hm : 0 < s.mp.credits)
    (ht : s.freeOwnTag = some t) (hq : s.cp.queue = []) :
    exec .arbitration s = .next ((s.applySent t w).drained w rest).pump := by
  have hown : (s.setOut []).ownReady = some (t, .apply w) := State.ownReady_of_drain (s := s.setOut []) hf hh ht
  have hclient : (s.setOut []).clientReady = false := by simp [State.clientReady, hq]
  have hclosed : (s.applySent t w).receiving = false := State.receiving_of_fault hf
  rw [exec_arbitration hp, State.arbitrate_own (s := s.setOut []) hm hclient hown,
    ← State.applyGranted_drained (w := w) hclosed hb]
  rfl

/-- A MIRROR that follows a gap in FAULT: the LOSS is decided and not sent (R112, R123). -/
theorem State.processMirror_drained (hr : u.receiving = false) (h0 : q ≠ u.sr.expected)
    (hq : (q - u.sr.expected).toNat < 32768) : u.processMirror f q a m d =
      (u.setSr { u.sr with expected := q + 1, clean := false }).judgeMirror f q a m d [] := by
  have h0' : ¬ q - u.sr.expected = 0 := fun h => h0 (sub_eq_zero.1 h)
  let x := u.setSr { u.sr with expected := q + 1 }
  have hx : ¬ x.receiving = true := ne_true_of_eq_false hr
  have hdecided : x.decideLoss u.sr.expected (granuleOf a.toNat) = x.setSr { x.sr with clean := false } := if_neg hx
  rw [State.processMirror, if_neg (Nat.not_le.2 hq), if_neg h0']
  dsimp only
  rw [hdecided, if_neg hx]
  rfl

/-- Inside the image and outside the fences it is then offered for apply (R113). -/
theorem State.processHead_drained (hr : u.receiving = false) (h0 : q ≠ u.sr.expected)
    (hq : (q - u.sr.expected).toNat < 32768) (hspan : a.toNat / 1024 < u.sc.params.span)
    (hcov : u.localCovers (a.toNat / 1024) = false) : u.processHead (.mirror q a m d) = u.setSr { u.sr with
      expected := q + 1
      clean := false
      head := some ⟨[], some ⟨false, a.setWidth 30, m, d, a.toNat / 1024, some q⟩⟩ } := by
  rw [State.processHead, State.processMirror_drained hr h0 hq,
    State.judgeMirror_offered (u := u.setSr { u.sr with expected := q + 1, clean := false }) hspan hcov]
  exact if_neg (by simp)

/-- In FAULT a frame with nothing at the head is processed next; a write it offers stops the drain until its grant (R123). -/
theorem State.pump_drains {v : State} (hf : u.targetIn .fault = true) (ht : u.sc.takenWaiting = false)
    (hh : u.sr.head = none) (hb : u.sr.buffer = f :: rest) (hv : u.processHead f = v) (hvf : v.targetIn .fault = true)
    (hvt : v.sc.takenWaiting = false) (hvh : v.sr.head ≠ none) : u.pump = v := by
  have hrests {x : State} (hx : x.targetIn .fault = true) (hxt : x.sc.takenWaiting = false) : x.placeable = none :=
    State.placeable_rests hxt fun h => absurd h (ne_true_of_eq_false (State.receiving_of_fault hx))
  have hnext : u.unprocessed = some f := by simp [State.unprocessed, hf, hh, hb]
  rw [State.pump, State.pumpFor, hrests hf ht, hnext]
  dsimp only
  rw [hv, State.pumpFor_settled _ _ (hrests hvf hvt) (State.unprocessed_head fun h => absurd h hvh)]

/-- Settles O21: the link events by the session they lose, then the drain by what stands behind the granted write. -/
theorem targetLosesLink : Obligations.TargetLosesLink := by
  unfold Obligations.TargetLosesLink
  intro s hp
  dsimp only
  refine ⟨event_running s (fun v => v.setSc { v.sc with linkUp := true }) hp, fun ht hr htp => ?_, fun hrun => ?_,
    fun hr htp htw => ?_, fun hrole htp => ?_, fun f w t hf htw hh hm ht hq => ?_⟩
  · rw [exec_linkDown hp, State.linkGoesDown_other (u := s.setOut []) ht hr htp]
    rfl
  · rw [exec_silentLimit hp]
    exact congrArg _ (if_neg (ne_true_of_eq_false hrun))
  · have ht := State.receiving_not_transmitting hr
    have hdown : exec .linkDown s = .next ((s.setOut []).unlinked.targetLinkLoss .linkDown) :=
      (exec_linkDown hp).trans (congrArg _ (State.linkGoesDown_target (u := s.setOut []) ht (.inl hr)))
    have hsilent (hrun : s.sr.silent.running = true) : exec .silentLimitExpiry s =
        .next ((s.setOut []).silentFired.targetLinkLoss .silent) :=
      (exec_silentLimit hp).trans (congrArg _ (State.silentExpired_target (u := s.setOut []) hrun hr))
    refine ⟨fun hb hh => ⟨?_, fun hrun => ?_⟩, fun answers w hh => ⟨?_, fun hrun => ?_⟩⟩
    · rw [hdown, State.targetLinkLoss_fault (u := (s.setOut []).unlinked) htp htw (Sr.dropAnswers_none hh) fun _ => hb]
      rfl
    · rw [hsilent hrun,
        State.targetLinkLoss_fault (u := (s.setOut []).silentFired) htp htw (Sr.dropAnswers_none hh) fun _ => hb]
      rfl
    · rw [hdown, State.targetLinkLoss_fault (u := (s.setOut []).unlinked) htp htw (Sr.dropAnswers_apply hh) nofun]
      rfl
    · rw [hsilent hrun,
        State.targetLinkLoss_fault (u := (s.setOut []).silentFired) htp htw (Sr.dropAnswers_apply hh) nofun]
      rfl
  · have ht : s.transmitting = false := by simp [State.transmitting, State.sending, State.sourceIn, hrole]
    refine ⟨?_, fun hr hrun => ?_⟩
    · rw [exec_linkDown hp, State.linkGoesDown_target (u := s.setOut []) ht (.inr ⟨hrole, htp⟩),
        State.targetLinkLoss_takeover (u := (s.setOut []).unlinked) htp]
      rfl
    · rw [exec_silentLimit hp, State.silentExpired_target (u := s.setOut []) hrun hr,
        State.targetLinkLoss_takeover (u := (s.setOut []).silentFired) htp]
      have hrun' : (s.setOut []).sr.silent.running = true := hrun
      rw [State.silentFired, hrun']
      rfl
  · refine ⟨fun hb => ?_, fun q a m d rest hb h0 hgap hspan hcov => ?_⟩
    · have hclosed : ((s.applySent t w).drained w []).receiving = false := State.receiving_of_fault hf
      rw [exec_arbitration_drain hp hf hb hh hm ht hq, State.pump, State.pumpFor_closed _ hclosed htw rfl]
      rfl
    · let u := (s.applySent t w).drained w (.mirror q a m d :: rest)
      have hclosed : u.receiving = false := State.receiving_of_fault hf
      have hprocess := State.processHead_drained (u := u) (m := m) (d := d) hclosed h0 hgap hspan hcov
      rw [exec_arbitration_drain hp hf hb hh hm ht hq, State.pump_drains (u := u) hf htw rfl rfl hprocess hf htw nofun]
      rfl

end Sys2Proof.Machine

/-! ## The end of a SOURCE's session -/

namespace Sys2Proof.Machine

open Sys2Proof

variable {s u : State}

/-! ### Link loss (R129, R134, R135) -/

/-- Link loss is the end of the session in FAULT with its reason, under both alerts (R101, R135). -/
theorem State.sourceLinkLoss_eq (u : State) (r : FaultReason) : u.sourceLinkLoss r = { u.leftSource .fault none with
    sc := { (u.leftSource .fault none).sc with faultReason := some r }
    au := { u.au with latch := u.au.latch ||| 0x100#12 ||| 0x200#12 } } := by
  rw [State.sourceLinkLoss, State.flushSource_eq]
  rfl

/-- The handshake's expiry is the same end without LINK_LOST, its timer standing at 10,000 (R129). -/
theorem State.handshakeLoss_eq (u : State) : u.handshakeLoss = { u.leftSource .fault none with
    sc := { (u.leftSource .fault none).sc with faultReason := some .handshakeTimeout, handshake := ⟨false, 10000⟩ }
    au := { u.au with latch := u.au.latch ||| 0x200#12 } } := by
  rw [State.handshakeLoss, State.flushSource_eq]
  rfl

/-- LINK_DOWN in a session of a SOURCE (R134). -/
theorem State.linkGoesDown_source (h : u.transmitting = true) : u.linkGoesDown = u.unlinked.sourceLinkLoss .linkDown :=
  if_pos h

/-- The silent limit in a sending state (R106, R134). -/
theorem State.silentExpired_source (hrun : u.sr.silent.running = true) (hs : u.sending = true) :
    u.silentExpired = u.silentFired.sourceLinkLoss .silent :=
  (if_pos hrun).trans (if_pos hs)

/-- The handshake's limit in HANDSHAKE (R129). -/
theorem exec_handshakeExpiry (hp : s.phase = .running) (hs : s.sourceIn .handshake = true) :
    exec .handshakeExpiry s = .next (s.setOut []).handshakeLoss := by
  have hrun : exec .handshakeExpiry s =
      .next (if (s.setOut []).sourceIn .handshake then (s.setOut []).handshakeLoss else s.setOut []) :=
    event_running s (fun v => if v.sourceIn .handshake then v.handshakeLoss else v) hp
  exact hrun.trans (congrArg _ (if_pos hs))

/-- Settles O20: each event is a loss of the link, and the loss ends the session by `State.leftSource`. -/
theorem sourceLosesLink : Obligations.SourceLosesLink := by
  unfold Obligations.SourceLosesLink
  intro s hp
  refine ⟨fun ht => ?_, fun hs hrun => ?_, fun hs => ?_⟩
  · rw [exec_linkDown hp, State.linkGoesDown_source (u := s.setOut []) ht, State.sourceLinkLoss_eq]
    rfl
  · rw [exec_silentLimit hp, State.silentExpired_source (u := s.setOut []) hrun hs, State.sourceLinkLoss_eq]
    rfl
  · rw [exec_handshakeExpiry hp hs, State.handshakeLoss_eq]
    rfl

/-! ### TAKEN and ABORT (R138, R145) -/

/-- TAKEN ends the session in IDLE, under PEER_TAKEOVER alone (R145). -/
theorem State.takeTaken_eq (u : State) : u.takeTaken = { u.leftSource .idle none with
    au := { u.au with latch := u.au.latch ||| 0x400#12 } } := by
  rw [State.takeTaken, State.flushSource_eq]
  rfl

/-- A TAKEN at a SOURCE (R122). -/
theorem exec_taken (hp : s.phase = .running) (hl : s.sc.linkUp = true) (hr : s.sc.role = .source) (n : Byte) :
    exec (.frameArrival (Frame.taken n).bytes) s =
      .next (if s.sending = true ∧ n = s.sc.session then s.heard.takeTaken else s.heard.discard (.taken n)) := by
  have hr' : s.heard.sc.role = .source := hr
  rw [exec_frameArrival hp hl (parse_taken n), State.takeFrame, hr']
  rfl

/-- ABORT is taken in every state (R138). -/
theorem exec_abort (hp : s.phase = .running) :
    exec (.abort []) s = .next ((s.setOut []).abortSession.finish false false .ok []) :=
  command_accepts (guarded := false) (enable := false) (ps := []) (body := fun u => .accept u.abortSession []) hp nofun rfl rfl

/-- ABORT in IDLE has nothing to end (R138). -/
theorem State.abortSession_idle (h : u.sc.state = .idle) : u.abortSession = u := if_pos (beq_iff_eq.2 h)

/-- A SOURCE that ABORT takes to IDLE (R138). -/
theorem State.abortSession_source (hr : u.sc.role = .source) (h : u.sc.state ≠ .idle) :
    u.abortSession = u.leftSource .idle none := by
  have hactive : ¬ u.isIdle = true := mt beq_iff_eq.1 h
  rw [State.abortSession, if_neg hactive, hr, ← State.flushSource_eq]

/-- A TARGET that ABORT takes to IDLE (R138, R146). -/
theorem State.abortSession_target (hr : u.sc.role = .target) (h : u.sc.state ≠ .idle) : u.abortSession = u.leftTarget := by
  have hactive : ¬ u.isIdle = true := mt beq_iff_eq.1 h
  rw [State.abortSession, if_neg hactive, hr, ← State.endTarget_eq]

/-- Settles O28: TAKEN by its state and number, ABORT by the state and then the role. -/
theorem takenAndAbort : Obligations.TakenAndAbort := by
  unfold Obligations.TakenAndAbort
  intro s hp
  refine ⟨fun hr hl hs => ?_, fun n hr hl hother => ?_, fun hi => ?_, fun hr hi => ?_, fun hr hi => ?_⟩
  · rw [exec_taken hp hl hr, if_pos ⟨hs, rfl⟩, State.takeTaken_eq]
    rfl
  · have hnot : ¬ (s.sending = true ∧ n = s.sc.session) := fun ⟨hs, hn⟩ =>
      hother.elim (fun h => ne_true_of_eq_false h hs) fun h => h hn
    rw [exec_taken hp hl hr, if_neg hnot]
    rfl
  · rw [exec_abort hp, State.abortSession_idle (u := s.setOut []) hi]
    rfl
  · rw [exec_abort hp, State.abortSession_source (u := s.setOut []) hr hi]
    rfl
  · rw [exec_abort hp, State.abortSession_target (u := s.setOut []) hr hi]
    rfl

end Sys2Proof.Machine

/-! ## TAKEOVER -/

namespace Sys2Proof.Machine

open Sys2Proof

variable {s u : State} {force : Bool}

/-! ### The command (R143) -/

/-- The parameter byte of TAKEOVER: bit 0 is FORCE (R143, R199). -/
def takeoverBytes (force : Bool) : List Byte := [if force then 1 else 0]

theorem takeoverBytes_force (force : Bool) : flagAt (takeoverBytes force) 0 0 = force := by
  cases force <;> rfl

/-- The table of R143. -/
theorem State.takeoverAllowed_iff : s.takeoverAllowed force = true ↔ s.sc.role = .target ∧ s.sc.takeoverPending = false ∧
    (s.sc.state = .shadow ∨ force = true ∧ (s.sc.state = .filling ∨ s.sc.state = .fault)) := by
  simp only [State.takeoverAllowed, State.targetIn, Bool.and_eq_true, Bool.or_eq_true, Bool.not_eq_true', beq_iff_eq]
  tauto

/-- SC as a TAKEOVER takes effect: the takeover pending, UNSYNCED_TAKEOVER from every state but SHADOW (R143). -/
def State.takingOver (u : State) : State := { u with sc := { u.sc with
  takeoverPending := true, unsynced := u.sc.unsynced || decide (u.sc.state ≠ .shadow) } }

theorem State.takingOver_eq (u : State) : u.setSc { u.sc with
    takeoverPending := true, unsynced := u.sc.unsynced || u.sc.state != .shadow } = u.takingOver := by
  cases h : u.sc.state <;> simp [State.takingOver, State.setSc, h]

/-- With the link down the takeover completes at once (R143, R144). -/
theorem State.beginTakeover_down (hl : u.sc.linkUp = false) : u.beginTakeover = u.takingOver.takeoverComplete := by
  have hdown : ¬ u.takingOver.sc.linkUp = true := ne_true_of_eq_false hl
  rw [State.beginTakeover, State.takingOver_eq]
  exact if_neg hdown

/-- TAKEN waits for a place in the return list (R117). -/
def State.claimingTaken (u : State) : State := { u with sc := { u.sc with takenWaiting := true } }

/-- With the link up TAKEN claims a place in the return list (R117, R143). -/
theorem State.beginTakeover_up (hl : u.sc.linkUp = true) : u.beginTakeover = u.takingOver.claimingTaken.pump := by
  have hup : u.takingOver.sc.linkUp = true := hl
  rw [State.beginTakeover, State.takingOver_eq]
  exact if_pos hup

/-- TAKEN takes the place it claims, and nothing waits behind it (R117). -/
theorem State.pump_taken (hroom : u.st.returnList.length < 16) (hf : u.sr.failedApply = []) (hc : u.sr.creditDue = false)
    (hb : u.sr.buffer = []) (hh : u.sr.head = none) : u.claimingTaken.pump = { u with
      st := { u.st with returnList := u.st.returnList ++ [.taken u.sc.session] }
      sc := { u.sc with takenWaiting := false } } := by
  have hplace : u.claimingTaken.placeable = some .taken := (if_pos hroom).trans (State.firstClaim_taken rfl)
  exact State.pump_one hplace (State.placeable_none rfl hf hh hc) (State.unprocessed_none hb)

/-- At a full return list TAKEN goes on waiting (R117, R143). -/
theorem State.pump_taken_waits (hfull : 16 ≤ u.st.returnList.length) (hb : u.sr.head = none → u.sr.buffer = []) :
    u.claimingTaken.pump = u.claimingTaken :=
  State.pump_settled _ (State.placeable_full hfull) (State.unprocessed_head hb)

theorem exec_takeover_refused (hp : s.phase = .running) (ha : s.mgp.armLatch = true) (h : s.takeoverAllowed force = false) :
    exec (.takeover (takeoverBytes force)) s = .next (s.replying true false .state []) := by
  rw [← takeoverBytes_force force] at h
  exact command_if_refuses (guarded := true) (c := fun u => u.takeoverAllowed (flagAt (takeoverBytes force) 0 0))
    (f := State.beginTakeover) hp (fun _ => ha) rfl h

theorem exec_takeover_taken (hp : s.phase = .running) (ha : s.mgp.armLatch = true) (h : s.takeoverAllowed force = true) :
    exec (.takeover (takeoverBytes force)) s = .next ((s.setOut []).beginTakeover.finish true false .ok []) := by
  rw [← takeoverBytes_force force] at h
  exact command_if_accepts (guarded := true) (c := fun u => u.takeoverAllowed (flagAt (takeoverBytes force) 0 0))
    (f := State.beginTakeover) hp (fun _ => ha) rfl h

/-! ### The send of TAKEN (R144) -/

/-- The send of a TAKEN completes the pending takeover (R100, R144). -/
theorem exec_returnListSend_taken {n : Byte} {rest : List Frame} (hp : s.phase = .running) (hr : s.sc.role = .target)
    (hl : s.sc.linkUp = true) (ht : s.sc.takeoverPending = true) (hq : s.st.returnList = .taken n :: rest) :
    exec .returnListSend s = .next (s.returnSent (.taken n) rest).takeoverComplete := by
  have hrun : exec .returnListSend s = .next (s.setOut []).sendReturn := event_running s State.sendReturn hp
  have hq' : (s.setOut []).st.returnList = .taken n :: rest := hq
  rw [hrun, State.sendReturn, if_pos ⟨hr, hl⟩, hq']
  exact congrArg _ (if_pos ht)

/-- Settles O46: the command by the table and then the link and the room, the send by the completion of the takeover. -/
theorem takeover : Obligations.Takeover := by
  unfold Obligations.Takeover
  refine ⟨fun force s hp ha => ?_, fun n rest s hp hr hl ht hq => ?_⟩
  · dsimp only
    rw [← State.takeoverAllowed_iff]
    refine ⟨fun h => ?_, fun h hl => ?_, fun h hl hroom hf hc hb hh => ?_, fun h hl hfull hb => ?_⟩
    · exact exec_takeover_refused hp ha (eq_false_of_ne_true h)
    · refine (exec_takeover_taken hp ha h).trans ?_
      rw [State.beginTakeover_down (u := s.setOut []) hl, State.takeoverComplete_eq]
      rfl
    · refine (exec_takeover_taken hp ha h).trans ?_
      rw [State.beginTakeover_up (u := s.setOut []) hl, State.pump_taken (u := (s.setOut []).takingOver) hroom hf hc hb hh]
      rfl
    · refine (exec_takeover_taken hp ha h).trans ?_
      rw [State.beginTakeover_up (u := s.setOut []) hl,
        State.pump_taken_waits (u := (s.setOut []).takingOver) hfull hb]
      rfl
  · rw [exec_returnListSend_taken hp hr hl ht hq, State.takeoverComplete_eq]
    rfl

end Sys2Proof.Machine

/-! ## Convergence: the rates and the hold of a pass, and CUTOVER -/

namespace Sys2Proof.Machine

open Sys2Proof

/-! ### The predicted hold and eligibility (R153, R154) -/

/-- With no work left the hold is Q_allow (R153). -/
theorem predictedHold_zero (c q : Nat) : predictedHold 0 c q = q := if_pos rfl

/-- With work left and no copy rate the hold is the largest there is (R153). -/
theorem predictedHold_no_rate {d : Nat} (q : Nat) (hd : 0 < d) : predictedHold d 0 q = 16777215 :=
  (if_neg (Nat.ne_of_gt hd)).trans (if_pos rfl)

/-- With work left and a copy rate the hold is the one over the other, rounded up, with Q_allow on top (R153). -/
theorem predictedHold_rate {d c : Nat} (q : Nat) (hd : 0 < d) (hc : 0 < c) :
    predictedHold d c q = min 16777215 ((d * 1024 + (c - 1)) / c + q) :=
  (if_neg (Nat.ne_of_gt hd)).trans (if_neg (Nat.ne_of_gt hc))

/-- What the rounding of R153 gives: the least number of whole units that holds the work. -/
theorem roundUp_spec {x c : Nat} (hx : 0 < x) (hc : 0 < c) :
    ((x + (c - 1)) / c - 1) * c < x ∧ x ≤ (x + (c - 1)) / c * c := by
  have hle : (x + (c - 1)) / c * c ≤ x + (c - 1) := Nat.div_mul_le_self _ _
  have hlt : x + (c - 1) < (x + (c - 1)) / c * c + c := Nat.lt_div_mul_add hc
  refine ⟨?_, by omega⟩
  rw [Nat.sub_mul, one_mul]
  omega

/-- A Q_allow of 16 bits keeps the hold in 24 (R153). -/
theorem predictedHold_le (d c : Nat) {q : Nat} (hq : q ≤ 65535) : predictedHold d c q ≤ 16777215 := by
  unfold predictedHold
  split_ifs
  · omega
  · exact Nat.le_refl _
  · exact Nat.min_le_left _ _

theorem eligibleFor_iff (p : Params) (c d : Nat) :
    eligibleFor p c d = true ↔ d ≤ p.dMax ∧ predictedHold d c p.qAllow ≤ p.hLimit := by
  simp [eligibleFor]

/-! ### The alerts of the tests (R154, R155) -/

/-- A raise under a condition sets its own flag there, and no other. -/
theorem State.latched_raiseIf (s : State) (c : Bool) (a b : Alert) :
    (s.raiseIf c a).latched b = (s.latched b || (c && decide (b = a))) := by
  cases c with
  | true => exact s.latched_raise a b
  | false => simp [State.raiseIf]

@[simp] theorem State.raiseIf_cvu (s : State) (c : Bool) (a : Alert) : (s.raiseIf c a).cvu = s.cvu := by
  rw [State.raiseIf_eq]
  rfl

theorem State.cutoverTest_latched (s : State) (p : TestPoint) (a : Alert) : (s.cutoverTest p).latched a =
    (s.latched a || ((s.cutoverTest p).cvu.record.eligible && decide (a = .eligible))) := by
  simp only [State.cutoverTest, State.latched_raiseIf, State.raiseIf_cvu, State.setCvu_cvu]
  rfl

/-- The streak before a pass end that makes it the third nonconverging one in a row (R155). -/
theorem decide_streakLimit_le_succ (n : Nat) : decide (n + 1 ≥ Config.streakLimit) = decide (2 ≤ n) := by
  rw [decide_eq_decide, Config.streakLimit]
  omega

/-- A pass end raises ELIGIBLE by its test and NONCONVERGENT by its streak, and no other flag (R154, R155). -/
theorem State.takePassEnd_latched (s : State) (a : Alert) : s.takePassEnd.latched a =
    (s.latched a || (s.takePassEnd.cvu.record.eligible && decide (a = .eligible)) ||
      ((!s.takePassEnd.cvu.record.converging && decide (2 ≤ s.cvu.streak)) && decide (a = .nonconvergent))) := by
  simp only [State.takePassEnd, State.latched_raiseIf, State.raiseIf_cvu, State.setCvu_cvu, decide_streakLimit_le_succ]
  rfl

/-! ### A pass end by its record (R150 to R155) -/

/-- A rate is a floor, capped at 16 bits (R151, R152). -/
theorem exists_floor (x : Nat) {t : Nat} (ht : 0 < t) :
    ∃ f, f * t ≤ x ∧ x < (f + 1) * t ∧ min 65535 (x / t) = min 65535 f :=
  ⟨x / t, Nat.div_mul_le_self x t, by rw [Nat.succ_mul]; exact Nat.lt_div_mul_add ht, rfl⟩

section PassEnd

variable (s : State)

/-- What the record of a pass end holds besides its rates: the pass's own counts, and the values of CVU after it (R159). -/
theorem State.takePassEnd_record : s.takePassEnd.cvu.record.t = max 1 s.se.passTimer ∧
    s.takePassEnd.cvu.record.nc = s.gm.nc ∧ s.takePassEnd.cvu.record.cHeld = decide (s.gm.nc = 0) ∧
    s.takePassEnd.cvu.record.c = s.takePassEnd.cvu.heldC ∧ s.takePassEnd.cvu.record.streak = s.takePassEnd.cvu.streak ∧
    s.takePassEnd.cvu.record.converging = decide (s.takePassEnd.cvu.record.r < s.takePassEnd.cvu.record.c) := by
  rw [s.takePassEnd_eq]
  exact ⟨rfl, rfl, rfl, rfl, rfl, rfl⟩

/-- The test at a pass end, on the census and the held C that the pass leaves (R153, R154). -/
theorem State.takePassEnd_test : s.takePassEnd.cvu.record.d = s.d ∧
    s.takePassEnd.cvu.record.h = predictedHold s.d s.takePassEnd.cvu.heldC s.sc.params.qAllow ∧
    s.takePassEnd.cvu.record.eligible = eligibleFor s.sc.params s.takePassEnd.cvu.heldC s.d := by
  rw [s.takePassEnd_eq]
  exact ⟨rfl, rfl, rfl⟩

theorem State.takePassEnd_heldC : s.takePassEnd.cvu.heldC = s.endedC := by
  rw [s.takePassEnd_eq]
  rfl

theorem State.takePassEnd_r : s.takePassEnd.cvu.record.r =
    min 65535 (min 16777215 (s.gm.nd + s.gm.ndNext) * 1024 / max 1 s.se.passTimer) := by
  rw [s.takePassEnd_eq]

/-- The streak goes on with a nonconverging pass, and ends with a converging or a third one (R155). -/
theorem State.takePassEnd_streak : s.takePassEnd.cvu.streak =
    if s.takePassEnd.cvu.record.converging = true ∨ 2 ≤ s.cvu.streak then 0 else s.cvu.streak + 1 := by
  rw [s.takePassEnd_eq]
  dsimp only
  have hends : ∀ x y : Bool, (x || (!x && y)) = (x || y) := by decide
  simp only [hends, Bool.or_eq_true, decide_eq_true_eq]

/-- The share rises by one, up to 15, with the third nonconverging pass in a row (R155, R156). -/
theorem State.takePassEnd_share : s.takePassEnd.cvu.share =
    if s.takePassEnd.cvu.record.converging = false ∧ 2 ≤ s.cvu.streak ∧ s.cvu.share < 15 then s.cvu.share + 1
    else s.cvu.share := by
  rw [s.takePassEnd_eq]
  simp [and_assoc]

end PassEnd

/-- Settles O50: the hold by its three cases, then the tests by what they enter in the record and the flag they raise. -/
theorem Cvu.predictedHold : Obligations.PredictedHold := by
  unfold Obligations.PredictedHold
  refine ⟨predictedHold_zero, fun d q hd => predictedHold_no_rate q hd, fun d c q hd hc => ?_,
    fun d c q hq => predictedHold_le d c hq, fun s p => ⟨?_, ?_⟩, eligibleFor_iff, fun s p t ht => ?_⟩
  · obtain ⟨hlt, hle⟩ := roundUp_spec (x := d * 1024) (by omega) hc
    exact ⟨_, hlt, hle, predictedHold_rate q hd hc⟩
  · rw [s.cutoverTest_eq p]
  · obtain ⟨-, hh, -⟩ := s.takePassEnd_test
    exact hh
  · obtain rfl | rfl := ht
    · refine ⟨?_, ?_, by simp [s.cutoverTest_latched p]⟩
      · rw [s.cutoverTest_eq p]
      · rw [s.cutoverTest_eq p]
    · obtain ⟨hd, -, hok⟩ := s.takePassEnd_test
      exact ⟨hd, hok, by simp [s.takePassEnd_latched]⟩

/-- Settles O51: the rates as floors over T, then the streak, the share and the alert by whether the pass converges. -/
theorem passEndArithmetic : Obligations.PassEndArithmetic := by
  unfold Obligations.PassEndArithmetic
  intro s p
  have hT : 0 < max 1 s.se.passTimer := by omega
  obtain ⟨hnd, hgm⟩ := s.takePassEnd_nd
  obtain ⟨ht, hnc, hheld, hc, hstreak, hconv⟩ := s.takePassEnd_record
  dsimp only
  rw [← hconv]
  refine ⟨ht, hnc, hnd, hgm, hc, hheld, fun h0 => ?_, fun h0 => ?_, ?_, rfl, hstreak, fun h => ?_, fun h h2 => ?_, ?_⟩
  · exact s.takePassEnd_heldC.trans (if_pos h0)
  · rw [s.takePassEnd_heldC, State.endedC, if_neg (Nat.ne_of_gt h0)]
    exact exists_floor _ hT
  · rw [s.takePassEnd_r]
    exact exists_floor _ hT
  · rw [s.takePassEnd_streak, s.takePassEnd_share, s.takePassEnd_latched]
    rcases h with h | h
    · simp [h]
    · simp [Nat.not_le.2 h]
  · rw [s.takePassEnd_streak, s.takePassEnd_share, s.takePassEnd_latched]
    simp [h, h2]
  · rw [s.cutoverTest_eq p]
    exact ⟨rfl, rfl, rfl⟩

end Sys2Proof.Machine

/-! ## CUTOVER by command -/

namespace Sys2Proof.Machine

open Sys2Proof

variable {s : State}

/-- CUTOVER with no test to make arms, and nothing else (R163). -/
theorem State.armCutover_waits (h : s.se.waiting = false ∨ s.se.paused = true) :
    s.armCutover = s.setCvu { s.cvu with armed := true, attempts := 0 } := by
  unfold State.armCutover
  rcases h with h | h <;> simp [h]

/-- The state in which CUTOVER has armed and made its immediate test (R163). -/
def State.armedTested (s : State) : State :=
  (s.setCvu { s.cvu with armed := true, attempts := 0 }).cutoverTest .command

theorem State.armedTested_eq (s : State) : s.armedTested =
    let ok := eligibleFor s.sc.params s.cvu.heldC s.d
    { s with
      cvu := { s.cvu with armed := true, attempts := 0, record := { s.cvu.record with
        d := s.d
        h := predictedHold s.d s.cvu.heldC s.sc.params.qAllow
        eligible := ok
        point := .command } }
      au := { s.au with latch := if ok then s.au.latch ||| 0x002#12 else s.au.latch } } :=
  State.cutoverTest_eq _ _

theorem State.armCutover_tests (hw : s.se.waiting = true) (hpa : s.se.paused = false) : s.armCutover =
    if eligibleFor s.sc.params s.cvu.heldC s.d then s.armedTested.enterCutover else s.armedTested := by
  have hrec : s.armedTested.cvu.record.eligible = eligibleFor s.sc.params s.cvu.heldC s.d := by rw [State.armedTested_eq]
  rw [← hrec]
  exact if_pos (by simp [hw, hpa])

theorem exec_cutover {t : State} (hp : s.phase = .running) (ha : s.mgp.armLatch = true) (ht : s.pausable = true)
    (h : (s.setOut []).armCutover = t) : exec (.cutover []) s = .next (t.finish true false .ok []) :=
  h ▸ command_if_accepts (c := State.pausable) (f := State.armCutover) hp (fun _ => ha) rfl ht

/-- Settles O44: the conditions of CUTOVER, then the immediate test by what it finds. -/
theorem cutoverArms : Obligations.CutoverArms := by
  unfold Obligations.CutoverArms
  intro s hp ha
  let u := s.setOut []
  dsimp only
  rw [← State.pausable_iff]
  refine ⟨fun hn => ?_, fun ht h => ?_, fun ht hw hpa hok => ?_, fun ht hw hpa hok hq hm => ?_⟩
  · exact command_if_refuses (c := State.pausable) hp (fun _ => ha) rfl (eq_false_of_ne_true hn)
  · exact exec_cutover hp ha ht (State.armCutover_waits (s := u) h)
  · have hstay : u.armCutover = u.armedTested :=
      (State.armCutover_tests (s := u) hw hpa).trans (if_neg (ne_true_of_eq_false hok))
    have hoku : eligibleFor u.sc.params u.cvu.heldC u.d = false := hok
    rw [exec_cutover hp ha ht hstay, State.armedTested_eq, hoku, hok]
    rfl
  · have henter : u.armCutover = u.armedTested.enterCutover := (State.armCutover_tests (s := u) hw hpa).trans (if_pos hok)
    have hst : u.armedTested.st = s.st := by rw [State.armedTested_eq]; rfl
    rw [u.armedTested.enterCutover_eq (by rw [hst]; omega) (by rw [hst, hm])] at henter
    have hoku : eligibleFor u.sc.params u.cvu.heldC u.d = true := hok
    rw [exec_cutover hp ha ht henter, State.armedTested_eq, hoku, hok]
    rfl

end Sys2Proof.Machine

/-! ## SET_SESSION and SET_SHARE -/

namespace Sys2Proof.Machine

open Sys2Proof

/-! ### The session parameter block (R181, 11.3) -/

/-- The operands of SET_SESSION. -/
structure SessionBlock where
  role : Byte
  span : BitVec 24
  mode : Byte
  policy : Byte
  dMax : BitVec 16
  hLimit : BitVec 16
  qAllow : BitVec 16
  ki : BitVec 16
  sl : Byte
  share : Byte

/-- The parameter bytes of SET_SESSION (11.3). -/
def SessionBlock.bytes (b : SessionBlock) : List Byte :=
  [b.role] ++ toBytes 3 b.span.toNat ++ [b.mode, b.policy] ++ toBytes 2 b.dMax.toNat ++ toBytes 2 b.hLimit.toNat ++
    toBytes 2 b.qAllow.toNat ++ toBytes 2 b.ki.toNat ++ [b.sl, b.share]

/-- The fields that SET_SESSION judges are in range (R181). -/
abbrev SessionBlock.sound (b : SessionBlock) : Prop :=
  b.role.toNat ≤ 2 ∧ 1 ≤ b.span.toNat ∧ b.span.toNat ≤ 1048576 ∧ b.mode.toNat ≤ 1 ∧ b.policy.toNat ≤ 1

/-- The role that a sound block names (11.3). -/
def SessionBlock.newRole (b : SessionBlock) : Role := if b.role = 0 then .none else if b.role = 1 then .source else .target

/-- The parameters that a sound block sets, those not judged brought into range (R181). -/
def SessionBlock.params (b : SessionBlock) : Params :=
  { span := b.span.toNat
    manual := decide (b.mode = 1)
    stall := decide (b.policy = 1)
    dMax := b.dMax.toNat
    hLimit := max 50 (min 20000 b.hLimit.toNat)
    qAllow := b.qAllow.toNat
    ki := max 10 (min 1000 b.ki.toNat)
    sl := max 2 (min 15 b.sl.toNat)
    share := max 1 (min 15 b.share.toNat) }

section Block

variable (b : SessionBlock)

/-- The fields of the block in order, each with its width. -/
def SessionBlock.fields (b : SessionBlock) : List (Nat × Nat) :=
  [(1, b.role.toNat), (3, b.span.toNat), (1, b.mode.toNat), (1, b.policy.toNat), (2, b.dMax.toNat), (2, b.hLimit.toNat),
    (2, b.qAllow.toNat), (2, b.ki.toNat), (1, b.sl.toNat), (1, b.share.toNat)]

theorem SessionBlock.bytes_eq : b.bytes = layout b.fields := by
  simp [SessionBlock.bytes, SessionBlock.fields, layout_cons, layout_nil, toBytes_toNat]

theorem SessionBlock.length_bytes : b.bytes.length = 16 := by
  rw [b.bytes_eq, length_layout]
  rfl

/-- A field of the block reads as its operand (R196). -/
theorem SessionBlock.field_bytes {off w v : Nat} {x : BitVec v} (hv : v = 8 * w)
    (h : fieldFrom b.fields off = some (w, x.toNat)) : field b.bytes off w = x.toNat := by
  rw [b.bytes_eq, field_layout h, ← hv]
  exact Nat.mod_eq_of_lt x.isLt

theorem SessionBlock.roleOf_role : roleOf b.role.toNat = if b.role.toNat ≤ 2 then some b.newRole else none := by
  have h0 : b.role = 0 ↔ b.role.toNat = 0 := BitVec.toNat_inj.symm
  have h1 : b.role = 1 ↔ b.role.toNat = 1 := BitVec.toNat_inj.symm
  simp only [roleOf, SessionBlock.newRole, h0, h1]
  grind

theorem choiceOf_toNat (c : Byte) : choiceOf c.toNat = if c.toNat ≤ 1 then some (decide (c = 1)) else none := by
  have h1 : c = 1 ↔ c.toNat = 1 := BitVec.toNat_inj.symm
  simp only [choiceOf, h1]
  grind

/-- SET_SESSION reads a block exactly when it is sound, and then as its role and parameters (R181). -/
theorem SessionBlock.paramsOf_bytes : paramsOf b.bytes = if b.sound then some (b.newRole, b.params) else none := by
  have hrole : field b.bytes 0 1 = b.role.toNat := b.field_bytes rfl rfl
  have hspan : field b.bytes 1 3 = b.span.toNat := b.field_bytes rfl rfl
  have hmode : field b.bytes 4 1 = b.mode.toNat := b.field_bytes rfl rfl
  have hpolicy : field b.bytes 5 1 = b.policy.toNat := b.field_bytes rfl rfl
  have hdMax : field b.bytes 6 2 = b.dMax.toNat := b.field_bytes rfl rfl
  have hhLimit : field b.bytes 8 2 = b.hLimit.toNat := b.field_bytes rfl rfl
  have hqAllow : field b.bytes 10 2 = b.qAllow.toNat := b.field_bytes rfl rfl
  have hki : field b.bytes 12 2 = b.ki.toNat := b.field_bytes rfl rfl
  have hsl : field b.bytes 14 1 = b.sl.toNat := b.field_bytes rfl rfl
  have hshare : field b.bytes 15 1 = b.share.toNat := b.field_bytes rfl rfl
  unfold paramsOf
  rw [hrole, hspan, hmode, hpolicy, hdMax, hhLimit, hqAllow, hki, hsl, hshare, b.roleOf_role, choiceOf_toNat, choiceOf_toNat,
    spanOf]
  by_cases h : b.sound
  · rw [if_pos h]
    obtain ⟨hr, hs1, hs2, hm, hp⟩ := h
    rw [if_pos hr, if_pos ⟨hs1, hs2⟩, if_pos hm, if_pos hp]
    rfl
  · rw [if_neg h]
    split
    · next er es em ep =>
      simp only [Option.ite_none_right_eq_some] at er es em ep
      obtain ⟨hr, -⟩ := er
      obtain ⟨⟨hs1, hs2⟩, -⟩ := es
      obtain ⟨hm, -⟩ := em
      obtain ⟨hp, -⟩ := ep
      exact absurd ⟨hr, hs1, hs2, hm, hp⟩ h
    · rfl

end Block

/-! ### The commands (R4, R149, R156, R181) -/

section Commands

variable {s : State} {ps : List Byte}

/-- The map leaves for a TARGET, or with another span (R4). -/
theorem State.mapLeaves_iff {role : Role} {span : Nat} : s.mapLeaves role span = true ↔
    role = .target ∨ s.gm.map.any (fun m => m.length != span) = true := by
  rw [State.mapLeaves, Bool.or_eq_true, beq_iff_eq]

/-- What SET_SESSION replaces, field by field (R4, R149, R181). -/
theorem State.replaceParams_fields (s : State) (role : Role) (p : Params) : s.replaceParams role p = { s with
    gm := if role = .target ∨ s.gm.map.any (fun m => m.length != p.span) = true then s.gm.removeMap else s.gm
    cvu := s.cvu.forRole role p.share
    sc := { s.sc with role := role, params := p } } := by
  unfold State.replaceParams
  simp only [State.mapLeaves_iff]
  split <;> rfl

theorem exec_setSession_state (hp : s.phase = .running) (hn : ps.length = 16) (hs : s.sc.state ≠ .idle) :
    exec (.setSession ps) s = .next (s.replying false false .state []) :=
  command_refuses hp (by simp) hn (if_neg (ne_true_of_eq_false (beq_false_of_ne hs)))

theorem exec_setSession_param (hp : s.phase = .running) (hn : ps.length = 16) (hs : s.sc.state = .idle)
    (h : paramsOf ps = none) : exec (.setSession ps) s = .next (s.replying false false .param []) :=
  command_refuses hp (by simp) hn ((if_pos (beq_iff_eq.2 hs)).trans (by rw [h]))

theorem exec_setSession {role : Role} {p : Params} (hp : s.phase = .running) (hn : ps.length = 16) (hs : s.sc.state = .idle)
    (h : paramsOf ps = some (role, p)) :
    exec (.setSession ps) s = .next (((s.setOut []).replaceParams role p).finish false false .ok []) :=
  command_accepts (guarded := false) hp (by simp) hn ((if_pos (beq_iff_eq.2 hs)).trans (by rw [h]))

theorem exec_setShare (share : Byte) (hp : s.phase = .running) :
    exec (.setShare [share]) s = .next (((s.setOut []).setShare (max 1 (min 15 share.toNat))).finish false false .ok []) := by
  rw [← field_cons_zero share []]
  exact command_accepts (guarded := false) (n := 1) (ps := [share])
    (body := fun u => .accept (u.setShare (clamp 1 Config.maxShare (field [share] 0 1))) []) hp (by simp) rfl rfl

end Commands

/-- Settles O37: SET_SESSION by the state and then the reading of its block, SET_SHARE by its one byte. -/
theorem setSession : Obligations.SetSession := by
  unfold Obligations.SetSession
  intro role mode policy sl share span dMax hLimit qAllow ki s hp
  let b : SessionBlock := ⟨role, span, mode, policy, dMax, hLimit, qAllow, ki, sl, share⟩
  have hlen : b.bytes.length = 16 := b.length_bytes
  have hread := b.paramsOf_bytes
  refine ⟨exec_setShare share hp, fun hs => ?_, fun hs hn => ?_, fun hs hok => ?_⟩
  · exact exec_setSession_state hp hlen hs
  · exact exec_setSession_param hp hlen hs (hread.trans (if_neg hn))
  · refine (exec_setSession hp hlen hs (hread.trans (if_pos hok))).trans ?_
    rw [State.replaceParams_fields]
    rfl

end Sys2Proof.Machine

/-! ## The hold timer expires in CUTOVER -/

namespace Sys2Proof.Machine

open Sys2Proof

variable {s : State}

/-- CUTOVER is given up for this attempt: hold and the hold timer ended, back in RINSE with nothing counted toward the next pass
(R165, R170; the timer's count is log 10). -/
def State.holdEnded (s : State) : State := { s with
  cp := { s.cp with hold := false }
  gm := { s.gm with ndNext := 0 }
  sc := { s.sc with state := .rinse, holdTimer := ⟨false, s.sc.params.hLimit⟩, awaitingReady := false } }

/-- The alert and, from the third attempt on, the disarming and CUTOVER_GIVEUP (R170). -/
def State.attemptFailed (s : State) : State := { s with
  cvu := { s.cvu with armed := s.cvu.armed && decide (s.cvu.attempts < 3) }
  au := { s.au with latch := s.au.latch ||| 0x008#12 ||| (if s.cvu.attempts < 3 then 0#12 else 0x010#12) } }

/-- The expiry's decision by D: a rinse pass that counts itself alone, or WAITING (R79, R170). -/
def State.holdDecided (s : State) : State := { s.holdEnded with
  gm := if 0 < s.d then { s.gm with nc := 0, nd := 0, ndNext := 0 } else { s.gm with ndNext := 0 }
  se := if 0 < s.d then { s.se with running := true, waiting := false, scanIdx := 0, passTimer := 0 }
    else { s.se with running := false, waiting := true } }

/-- What a hold expiry leaves behind its mark (R170). -/
def State.cutoverAborted (s : State) : State := s.holdDecided.attemptFailed

theorem State.holdEnded_rinseOrWait (s : State) : s.holdEnded.rinseOrWait = s.holdDecided := by
  rw [State.holdDecided]
  by_cases hd : 0 < s.d
  · rw [State.rinseOrWait_rinses (s := s.holdEnded) hd, if_pos hd, if_pos hd]
    rfl
  · rw [State.rinseOrWait_waits (s := s.holdEnded) (Nat.eq_zero_of_not_pos hd), if_neg hd, if_neg hd]
    rfl

theorem State.attemptFailed_eq (s : State) : s.attemptFailed =
    if 3 ≤ s.cvu.attempts then ((s.raise .cutoverAbort).setCvu { s.cvu with armed := false }).raise .cutoverGiveup
    else s.raise .cutoverAbort := by
  rw [State.attemptFailed]
  by_cases hlast : s.cvu.attempts < 3
  · rw [if_pos hlast, if_neg (Nat.not_le.2 hlast), decide_eq_true hlast, Bool.and_true, BitVec.or_zero]
    rfl
  · rw [if_neg hlast, if_pos (Nat.not_lt.1 hlast), decide_eq_false hlast, Bool.and_false]
    rfl

/-- The expiry is its mark, the end of the hold, the decision by D, and the end of the attempt (R170). -/
theorem State.holdExpired_marked {t : State} (h : s.appendMark (.cutoverAbort (BitVec.ofNat 8 s.cvu.attempts)) = t) :
    s.holdExpired = t.cutoverAborted := by
  have hparts : s.holdExpired = t.holdEnded.rinseOrWait.attemptFailed := by
    subst h
    rw [State.attemptFailed_eq]
    rfl
  exact hparts.trans (congrArg State.attemptFailed t.holdEnded_rinseOrWait)

/-- A flag that an append may raise can as well be raised last. -/
theorem latch_raise_last (c : Prop) [Decidable c] (latch a b x : BitVec 12) :
    (if c then latch ||| a else latch) ||| b ||| x = latch ||| b ||| x ||| (if c then a else 0#12) := by
  split
  · ac_rfl
  · rw [BitVec.or_zero]

/-- Where the mark finds room, TXQ_HIGH comes with the alerts of the expiry (R84, R90, R170). -/
theorem State.cutoverAborted_appendTx (s : State) (e : TxEntry) : (s.appendTx e).cutoverAborted = { s.cutoverAborted with
    st := { s.st with txq := s.st.txq ++ [e] }
    au := { s.au with
      latch := s.cutoverAborted.au.latch ||| (if s.st.txq.length = 62 then 0x080#12 else 0#12) } } := by
  have hlatch : s.cutoverAborted.au.latch ||| (if s.st.txq.length = 62 then 0x080#12 else 0#12) = _ :=
    (latch_raise_last (s.st.txq.length = 62) s.au.latch 0x080#12 0x008#12 _).symm
  rw [hlatch, State.appendTx_eq]
  rfl

theorem exec_holdTimerExpiry {t : State} (hp : s.phase = .running) (hs : s.sourceIn .cutover = true)
    (hr : s.sc.holdTimer.running = true)
    (h : (s.setOut []).appendMark (.cutoverAbort (BitVec.ofNat 8 s.cvu.attempts)) = t) :
    exec .holdTimerExpiry s = .next t.cutoverAborted := by
  have hrun : exec .holdTimerExpiry s = .next
      (if s.sourceIn .cutover && s.sc.holdTimer.running then (s.setOut []).holdExpired else s.setOut []) :=
    event_running s _ hp
  rw [hrun, if_pos (Bool.and_eq_true_iff.2 ⟨hs, hr⟩), State.holdExpired_marked h]

/-- Settles O22: the mark by the room it finds, then what the expiry leaves behind it. -/
theorem holdTimerExpires : Obligations.HoldTimerExpires := by
  unfold Obligations.HoldTimerExpires
  intro s hp hs hr
  let k : MarkKind := .cutoverAbort (BitVec.ofNat 8 s.cvu.attempts)
  refine ⟨fun hq hm => ?_, fun hfull hm => ?_, fun hm => ?_⟩
  · rw [exec_holdTimerExpiry hp hs hr ((s.setOut []).appendMark_room k hq hm), State.cutoverAborted_appendTx]
    rfl
  · have hroom : ¬ (s.st.txq.length < 64 ∧ s.st.pendingMarks = []) := fun h => hfull.elim (Nat.not_le.2 h.1) (· h.2)
    rw [exec_holdTimerExpiry hp hs hr ((s.setOut []).appendMark_waits k hroom hm)]
    rfl
  · have hroom : ¬ (s.st.txq.length < 64 ∧ s.st.pendingMarks = []) := fun h => by simp [h.2] at hm
    rw [exec_holdTimerExpiry hp hs hr (((s.setOut []).appendMark_dropped k hroom hm).trans (State.dropMark_eq nofun))]
    rfl

end Sys2Proof.Machine

/-! ## The queue of commands under every operation, and the arm latch under the sweep and the ends of a session

No operation inside an event reads or writes the model's own queue (log 1). The operations that an unguarded command may set going
leave the arm latch as well: for each of them one lemma says both. -/

namespace Sys2Proof.Machine

open Sys2Proof

variable (s : State)

@[simp] theorem pending_ite {c : Prop} [Decidable c] (t u : State) :
    (if c then t else u).pending = if c then t.pending else u.pending :=
  apply_ite State.pending c t u

@[simp] theorem armLatch_ite {c : Prop} [Decidable c] (t u : State) :
    (if c then t else u).mgp.armLatch = if c then t.mgp.armLatch else u.mgp.armLatch :=
  apply_ite (fun v : State => v.mgp.armLatch) c t u

/-! ### Flags, marks and the ends of a session -/

@[simp] theorem queue_latch_raise (a : Alert) :
    (s.raise a).pending = s.pending ∧ (s.raise a).mgp.armLatch = s.mgp.armLatch := ⟨rfl, rfl⟩
@[simp] theorem queue_latch_count (c : Counter) :
    (s.count c).pending = s.pending ∧ (s.count c).mgp.armLatch = s.mgp.armLatch := ⟨rfl, rfl⟩
@[simp] theorem queue_latch_capture (k : EventKind) (g : Option Nat) (d : Detail) :
    (s.capture k g d).pending = s.pending ∧ (s.capture k g d).mgp.armLatch = s.mgp.armLatch := ⟨rfl, rfl⟩
@[simp] theorem queue_latch_setState (x : SessionState) :
    (s.setState x).pending = s.pending ∧ (s.setState x).mgp.armLatch = s.mgp.armLatch := ⟨rfl, rfl⟩
@[simp] theorem queue_latch_raiseIf (c : Bool) (a : Alert) :
    (s.raiseIf c a).pending = s.pending ∧ (s.raiseIf c a).mgp.armLatch = s.mgp.armLatch := by
  simp [State.raiseIf]
@[simp] theorem queue_latch_appendTx (e : TxEntry) :
    (s.appendTx e).pending = s.pending ∧ (s.appendTx e).mgp.armLatch = s.mgp.armLatch := by
  simp [State.appendTx]
@[simp] theorem queue_latch_endSource (x : SessionState) :
    (s.endSource x).pending = s.pending ∧ (s.endSource x).mgp.armLatch = s.mgp.armLatch := ⟨rfl, rfl⟩
@[simp] theorem queue_latch_appendMark (k : MarkKind) :
    (s.appendMark k).pending = s.pending ∧ (s.appendMark k).mgp.armLatch = s.mgp.armLatch := by
  simp [State.appendMark, State.dropMark, State.detachComplete]

/-! ### Passes -/

@[simp] theorem queue_latch_startRinse :
    s.startRinse.pending = s.pending ∧ s.startRinse.mgp.armLatch = s.mgp.armLatch := ⟨rfl, rfl⟩
@[simp] theorem queue_latch_rinseOrWait :
    s.rinseOrWait.pending = s.pending ∧ s.rinseOrWait.mgp.armLatch = s.mgp.armLatch := by
  simp [State.rinseOrWait]
@[simp] theorem queue_latch_finishScan :
    s.finishScan.pending = s.pending ∧ s.finishScan.mgp.armLatch = s.mgp.armLatch := by
  simp [State.finishScan]
@[simp] theorem queue_latch_startScan :
    s.startScan.pending = s.pending ∧ s.startScan.mgp.armLatch = s.mgp.armLatch := by
  simp [State.startScan]
@[simp] theorem queue_latch_enterCutover :
    s.enterCutover.pending = s.pending ∧ s.enterCutover.mgp.armLatch = s.mgp.armLatch := by
  simp [State.enterCutover]
@[simp] theorem queue_latch_cutoverTest (p : TestPoint) :
    (s.cutoverTest p).pending = s.pending ∧ (s.cutoverTest p).mgp.armLatch = s.mgp.armLatch := by
  simp [State.cutoverTest]
@[simp] theorem queue_latch_passEnd : s.passEnd.pending = s.pending ∧ s.passEnd.mgp.armLatch = s.mgp.armLatch := by
  simp [State.passEnd, State.takePassEnd]
@[simp] theorem queue_latch_scanCheck :
    s.scanCheck.pending = s.pending ∧ s.scanCheck.mgp.armLatch = s.mgp.armLatch := by
  unfold State.scanCheck
  split
  · exact ⟨rfl, rfl⟩
  · split <;> simp

/-! ### Unguarded commands -/

@[simp] theorem queue_latch_replaceParams (role : Role) (p : Params) :
    (s.replaceParams role p).pending = s.pending ∧ (s.replaceParams role p).mgp.armLatch = s.mgp.armLatch := by
  simp [State.replaceParams]
@[simp] theorem queue_latch_resumeSweep :
    s.resumeSweep.pending = s.pending ∧ s.resumeSweep.mgp.armLatch = s.mgp.armLatch := by
  have deferred (u : State) : u.deferredTest.pending = u.pending ∧ u.deferredTest.mgp.armLatch = u.mgp.armLatch := by
    simp [State.deferredTest]
  unfold State.resumeSweep
  split
  · dsimp only
    split
    · exact deferred _
    · split <;> simp
  · exact ⟨rfl, rfl⟩
@[simp] theorem queue_latch_skipTo (c : Cursor) :
    (s.skipTo c).pending = s.pending ∧ (s.skipTo c).mgp.armLatch = s.mgp.armLatch := by
  simp [State.skipTo]
@[simp] theorem queue_latch_abortSession :
    s.abortSession.pending = s.pending ∧ s.abortSession.mgp.armLatch = s.mgp.armLatch := by
  unfold State.abortSession
  split
  · exact ⟨rfl, rfl⟩
  · split <;> exact ⟨rfl, rfl⟩

/-! ### Transitions into DIRTY, visits and closes -/

@[simp] theorem pending_markDirty (g : Nat) : (s.markDirty g).pending = s.pending := by
  obtain ⟨-, h⟩ | ⟨-, h⟩ | ⟨-, -, h⟩ := s.markDirty_cases g <;>
    simp [h, State.markStale, State.dirty, State.wake, State.syncLost, State.dropNext]
@[simp] theorem pending_visit : s.visit.pending = s.pending := by
  have hstep : s.stepVisit.pending = s.pending := by simp [State.stepVisit]
  unfold State.visit State.visitGranule
  split
  · split
    · split <;> simp [hstep, State.openGranule]
    · rfl
  · rfl
@[simp] theorem pending_closeIfDue : s.closeIfDue.pending = s.pending := by
  unfold State.closeIfDue State.closeGranule
  split <;> simp
@[simp] theorem pending_holdExpired : s.holdExpired.pending = s.pending := by
  unfold State.holdExpired
  dsimp only
  split <;> simp [State.releaseHold, State.dropNext]

/-! ### The receiver -/

/-- What stays out of the receiver's reach holds the queue (R108). -/
theorem pending_of_beyondReceiver {s t : State} (h : t.beyondReceiver = s.beyondReceiver) : t.pending = s.pending := by
  simp only [State.beyondReceiver, Prod.mk.injEq] at h
  obtain ⟨-, -, -, -, -, -, hpending⟩ := h
  exact hpending

@[simp] theorem pending_pump : s.pump.pending = s.pending := pending_of_beyondReceiver (by simp)
@[simp] theorem pending_clearClean : s.clearClean.pending = s.pending := pending_of_beyondReceiver (by simp)
@[simp] theorem pending_decideNeed (g : Nat) : (s.decideNeed g).pending = s.pending := pending_of_beyondReceiver (by simp)
@[simp] theorem pending_discardTarget (f : Frame) : (s.discardTarget f).pending = s.pending :=
  pending_of_beyondReceiver (by simp)
@[simp] theorem pending_applyGranted (a : ApplyWrite) : (s.applyGranted a).pending = s.pending := by
  refine pending_of_beyondReceiver ?_
  unfold State.applyGranted
  dsimp only
  split <;> simp

/-! ### The ports -/

@[simp] theorem pending_emit (o : Output) : (s.emit o).pending = s.pending := rfl
@[simp] theorem pending_returnCredit : s.returnCredit.pending = s.pending := rfl
@[simp] theorem pending_grantRecord (r : MemRecord) (q : MemRequest) : (s.grantRecord r q).pending = s.pending := rfl
@[simp] theorem pending_judgeHead : s.judgeHead.pending = s.pending := by
  obtain ⟨-, -, -, -, -, -, -, -, -, hpending⟩ := State.judgeFor_frame s.cp.queue.length s
  exact hpending
@[simp] theorem pending_arrive (r : ClientRequest) : (s.arrive r).pending = s.pending := by simp [State.arrive]
@[simp] theorem pending_noticeGrant (r : ClientRequest) : (s.noticeGrant r).pending = s.pending := by
  cases r with
  | read t a => rfl
  | write t a m d =>
    unfold State.noticeGrant State.captureNotice
    dsimp only
    split
    · split <;> simp [State.mirror, State.degrade]
    · rfl
@[simp] theorem pending_grantClient (r : ClientRequest) : (s.grantClient r).pending = s.pending := by
  simp [State.grantClient]
@[simp] theorem pending_grantOwn (t : Nat) (o : OwnOffer) : (s.grantOwn t o).pending = s.pending := by
  cases o with
  | sweep g n i => simp [State.grantOwn, State.grantSweep]
  | apply a => simp [State.grantOwn, State.grantApply]
@[simp] theorem pending_arbitrate : s.arbitrate.pending = s.pending := by
  unfold State.arbitrate
  split
  · rfl
  · split <;> simp
@[simp] theorem pending_clientResponse (r : MemRecord) (q : MemResponse) : (s.clientResponse r q).pending = s.pending := by
  unfold State.clientResponse
  dsimp only
  split
  · simp [State.failureNotice]
  · rfl
@[simp] theorem pending_route (r : MemRecord) (q : MemResponse) : (s.route r q).pending = s.pending := by
  unfold State.route
  split
  · simp
  · simp [State.fillLine]
  · simp [State.applyDone]
  · rfl
@[simp] theorem pending_respond (q : MemResponse) : (s.respond q).pending = s.pending := by
  unfold State.respond
  split <;> simp [State.takeRecord]

/-! ### The transmitter and the answers of the TARGET -/

@[simp] theorem pending_sendFrame (f : Frame) : (s.sendFrame f).pending = s.pending := rfl
@[simp] theorem pending_sendKeep : s.sendKeep.pending = s.pending := rfl
@[simp] theorem pending_sendHead (f : Frame) : (s.sendHead f).pending = s.pending := by
  have append (u : State) : u.appendPending.pending = u.pending := by
    unfold State.appendPending
    split <;> simp
  have after (u : State) : (u.afterSend f).pending = u.pending := by
    unfold State.afterSend
    split <;> simp [State.detachComplete]
  simp [State.sendHead, append, after]
@[simp] theorem pending_transmit : s.transmit.pending = s.pending := by
  unfold State.transmit
  split
  · split <;> simp
  · rfl
@[simp] theorem pending_streamDirty (g : Nat) : (s.streamDirty g).pending = s.pending := by simp [State.streamDirty]
@[simp] theorem pending_dirtyRecords (rs : List MirrorRecord) : (s.dirtyRecords rs).pending = s.pending := by
  induction rs generalizing s with
  | nil => rfl
  | cons r rs ih => simp [State.dirtyRecords, ih]
@[simp] theorem pending_settle : s.settle.pending = s.pending := by
  unfold State.settle
  split <;> simp

/-! ### Frames that arrive -/

@[simp] theorem pending_sourceLinkLoss (r : FaultReason) : (s.sourceLinkLoss r).pending = s.pending := rfl
@[simp] theorem pending_discard (f : Frame) : (s.discard f).pending = s.pending := rfl
@[simp] theorem pending_appendReturn (f : Frame) : (s.appendReturn f).pending = s.pending := rfl
@[simp] theorem pending_lostFrame (len : Nat) : (s.lostFrame len).pending = s.pending := by
  simp [State.lostFrame, State.raiseFreed]
@[simp] theorem pending_countBadFences (fs : List WireFence) : (s.countBadFences fs).pending = s.pending := by
  induction fs generalizing s with
  | nil => rfl
  | cons f fs ih => simp [State.countBadFences, ih]
@[simp] theorem pending_takeReply (a : ReplyAnswer) (fs : List WireFence) : (s.takeReply a fs).pending = s.pending := by
  have refused (a : ReplyAnswer) : (s.replyRefused a).pending = s.pending := rfl
  cases a with
  | accept => simp [State.takeReply, State.replyAccepted, State.loadPeer, State.startPassZero, State.zeroCounts, State.dropNext]
  | refuseSpan => exact refused _
  | refuseState => exact refused _
@[simp] theorem pending_takeReady (ok : Bool) : (s.takeReady ok).pending = s.pending := by
  simp [State.takeReady, State.releaseHold]
@[simp] theorem pending_sourceFrame (f : Frame) : (s.sourceFrame f).pending = s.pending := by
  cases f with
  | credit n a => simp [State.sourceFrame, State.takeCredit]
  | need g => simp [State.sourceFrame, State.takeNeed]
  | loss e d => simp [State.sourceFrame, State.takeLoss]
  | taken n => simp [State.sourceFrame, State.takeTaken, State.flushSource]
  | _ => simp [State.sourceFrame]
@[simp] theorem pending_targetFrame (f : Frame) : (s.targetFrame f).pending = s.pending := by
  have enter : (s.enterBuffer f).pending = s.pending := by
    simp [State.enterBuffer, State.bufferOverflow, State.raiseFreed]
  unfold State.targetFrame
  split
  · rfl
  · split
    · exact enter
    · exact enter
    · split
      · simp [State.helloInListen, State.acceptHello]
      · rfl
    · split
      · simp [State.helloInFault]
      · rfl
    · rfl
@[simp] theorem pending_takeFrame (f : Frame) : (s.takeFrame f).pending = s.pending := by
  unfold State.takeFrame State.idleFrame
  split
  · simp
  · simp
  · split <;> rfl
@[simp] theorem pending_receive (bs : List Byte) : (s.receive bs).pending = s.pending := by
  have restart : s.restartSilent.pending = s.pending := by simp [State.restartSilent]
  unfold State.receive
  split
  · rfl
  · split
    · simp [State.crcFailed]
    · dsimp only
      split <;> simp [State.malformed, restart]

/-! ### Sends of the return list, expiries and the link -/

@[simp] theorem pending_takeoverComplete : s.takeoverComplete.pending = s.pending := rfl
@[simp] theorem pending_sendReturn : s.sendReturn.pending = s.pending := by
  have after (u : State) (f : Frame) : (u.afterReturn f).pending = u.pending := by
    unfold State.afterReturn
    split <;> simp
  unfold State.sendReturn
  split
  · split <;> simp [after]
  · rfl
@[simp] theorem pending_keepaliveExpired (ready : Bool) : (s.keepaliveExpired ready).pending = s.pending := by
  have target : s.keepaliveTarget.pending = s.pending := by
    unfold State.keepaliveTarget
    dsimp only
    split <;> simp
  simp [State.keepaliveExpired, State.keepaliveSource, target]
@[simp] theorem pending_targetLinkLoss (r : FaultReason) : (s.targetLinkLoss r).pending = s.pending := by
  simp [State.targetLinkLoss, State.targetFault]
@[simp] theorem pending_silentExpired : s.silentExpired.pending = s.pending := by simp [State.silentExpired]
@[simp] theorem pending_linkGoesDown : s.linkGoesDown.pending = s.pending := by simp [State.linkGoesDown]

/-! ### Guarded commands -/

@[simp] theorem pending_openSession : s.openSession.pending = s.pending := by simp [State.openSession]
@[simp] theorem pending_beginListen : s.beginListen.pending = s.pending := by simp [State.beginListen]
@[simp] theorem pending_armCutover : s.armCutover.pending = s.pending := by simp [State.armCutover, State.immediateTest]
@[simp] theorem pending_beginDetach : s.beginDetach.pending = s.pending := by simp [State.beginDetach, State.releaseHold]
@[simp] theorem pending_beginTakeover : s.beginTakeover.pending = s.pending := by
  unfold State.beginTakeover
  dsimp only
  split <;> simp

end Sys2Proof.Machine

/-! ## Every command, and the commands of the management line -/

namespace Sys2Proof.Machine

open Sys2Proof

/-! ### What a management command runs (R179, R180) -/

/-- The commands whose meaning writes the arm latch, and the guarded ones, which clear it at their end (R180). -/
def setsLatch : Instr → Bool
  | .arm _ | .disarm _ | .reset _ => true
  | c => c.guarded

/-- What an accepted command leaves: the queue of commands and, with `latch`, the arm latch. -/
def CommandResult.leaves (latch : Bool) (s : State) : CommandResult → Prop
  | .accept t _ => t.pending = s.pending ∧ (latch = true → t.mgp.armLatch = s.mgp.armLatch)
  | .refuse _ => True

theorem CommandResult.leaves_acceptIf {latch c : Bool} {code : ResultCode} {s t : State} (hp : t.pending = s.pending)
    (ha : latch = true → t.mgp.armLatch = s.mgp.armLatch) : (acceptIf c code t).leaves latch s := by
  cases c
  · trivial
  · exact ⟨hp, ha⟩

/-- The move of a SKIP command. -/
theorem CommandResult.leaves_skip (s : State) (latch : Bool) (name : Nat) (ps : List Byte) (c : Cursor) :
    CommandResult.leaves latch s
      (if s.skippable then acceptIf (field ps 0 1 == name) .param (s.skipTo c) else .refuse .state) := by
  split
  · exact leaves_acceptIf (by simp) (by simp)
  · trivial

/-- Every command with a layout is the frame of R179 around its own checks and its meaning, which leave the queue of commands and,
but for the commands that set it, the arm latch. -/
theorem exec_command {c : Instr} {ps : List Byte} {n : Nat} (h : c.layout = some (ps, n)) : ∃ enable body,
    exec c = command c.guarded n enable ps body ∧ ∀ u, (body u).leaves (!setsLatch c) u := by
  cases c with
  | status qs => cases h; exact ⟨false, _, rfl, fun _ => ⟨rfl, fun _ => rfl⟩⟩
  | arm qs => cases h; exact ⟨false, _, rfl, fun _ => ⟨rfl, nofun⟩⟩
  | disarm qs => cases h; exact ⟨false, _, rfl, fun _ => ⟨rfl, nofun⟩⟩
  | setSession qs =>
    cases h
    refine ⟨false, _, rfl, fun u => ?_⟩
    split
    · split
      · exact ⟨by simp, by simp⟩
      · trivial
    · trivial
  | loadExtent qs =>
    cases h
    refine ⟨false, _, rfl, fun u => ?_⟩
    split
    · exact CommandResult.leaves_acceptIf rfl fun _ => rfl
    · trivial
  | planClear qs => cases h; exact ⟨false, _, rfl, fun _ => CommandResult.leaves_acceptIf rfl fun _ => rfl⟩
  | setFence flock qs =>
    cases h
    refine ⟨false, _, rfl, fun u => ?_⟩
    split
    · trivial
    · split
      · trivial
      · exact CommandResult.leaves_acceptIf rfl nofun
  | lockFences qs =>
    cases h
    refine ⟨false, _, rfl, fun u => ?_⟩
    split
    · trivial
    · split
      · trivial
      · exact ⟨rfl, nofun⟩
  | start qs => cases h; exact ⟨false, _, rfl, fun _ => CommandResult.leaves_acceptIf (by simp) nofun⟩
  | listen qs => cases h; exact ⟨false, _, rfl, fun _ => CommandResult.leaves_acceptIf (by simp) nofun⟩
  | pause qs => cases h; exact ⟨false, _, rfl, fun _ => CommandResult.leaves_acceptIf rfl fun _ => rfl⟩
  | resume qs => cases h; exact ⟨false, _, rfl, fun _ => CommandResult.leaves_acceptIf (by simp) (by simp)⟩
  | skipLevel qs => cases h; exact ⟨false, _, rfl, fun u => CommandResult.leaves_skip u _ _ _ _⟩
  | skipExtent qs => cases h; exact ⟨false, _, rfl, fun u => CommandResult.leaves_skip u _ _ _ _⟩
  | cutover qs => cases h; exact ⟨false, _, rfl, fun _ => CommandResult.leaves_acceptIf (by simp) nofun⟩
  | detach qs => cases h; exact ⟨false, _, rfl, fun _ => CommandResult.leaves_acceptIf (by simp) nofun⟩
  | takeover qs => cases h; exact ⟨false, _, rfl, fun _ => CommandResult.leaves_acceptIf (by simp) nofun⟩
  | abort qs => cases h; exact ⟨false, _, rfl, fun _ => ⟨by simp, by simp⟩⟩
  | setShare qs => cases h; exact ⟨false, _, rfl, fun _ => ⟨rfl, fun _ => rfl⟩⟩
  | readCursor qs => cases h; exact ⟨false, _, rfl, fun _ => ⟨rfl, fun _ => rfl⟩⟩
  | readPass qs => cases h; exact ⟨false, _, rfl, fun _ => ⟨rfl, fun _ => rfl⟩⟩
  | readMap qs =>
    cases h
    refine ⟨false, _, rfl, fun u => ?_⟩
    split
    · exact ⟨rfl, fun _ => rfl⟩
    · trivial
  | readEvent qs => cases h; exact ⟨false, _, rfl, fun _ => ⟨rfl, fun _ => rfl⟩⟩
  | ackAlerts qs => cases h; exact ⟨false, _, rfl, fun _ => ⟨rfl, fun _ => rfl⟩⟩
  | setMask qs => cases h; exact ⟨false, _, rfl, fun _ => ⟨rfl, fun _ => rfl⟩⟩
  | clearCounters qs => cases h; exact ⟨false, _, rfl, fun _ => ⟨rfl, fun _ => rfl⟩⟩
  | resetEnable qs => cases h; exact ⟨true, _, rfl, fun _ => ⟨rfl, fun _ => rfl⟩⟩
  | reset qs => cases h; exact ⟨false, _, rfl, fun _ => CommandResult.leaves_acceptIf rfl nofun⟩
  | _ => cases h

/-! ### Every command answers a next state -/

/-- An event whose meaning leaves the queue of commands. -/
theorem pending_event {f : State → State} (s : State) (hf : ∀ u, (f u).pending = u.pending) :
    ∃ t, event s f = .next t ∧ t.pending = s.pending :=
  ⟨_, rfl, by simp [hf]⟩

/-- A management command whose meaning leaves the queue of commands. -/
theorem pending_command {latch guarded enable : Bool} {n : Nat} {ps : List Byte} {body : State → CommandResult} (s : State)
    (hb : ∀ u, (body u).leaves latch u) : ∃ t, command guarded n enable ps body s = .next t ∧ t.pending = s.pending := by
  have ⟨t, h⟩ : ∃ t, command guarded n enable ps body s = .next t := event_next s _
  refine ⟨t, h, ?_⟩
  obtain ⟨-, rfl⟩ | ⟨c, rfl⟩ | ⟨u, data, hu, rfl⟩ := command_cases s h
  · rfl
  · rfl
  · have hk := hb (s.setOut [])
    rw [hu] at hk
    exact hk.1

/-- Settles O3: a management command by its frame, any other by what its operation leaves. -/
theorem everyCommandCompletes : Obligations.EveryCommandCompletes := by
  unfold Obligations.EveryCommandCompletes
  intro c s
  cases hl : c.layout with
  | some l =>
    obtain ⟨ps, n⟩ := l
    obtain ⟨enable, body, hrun, hb⟩ := exec_command hl
    rw [hrun]
    exact pending_command s hb
  | none =>
    cases c with
    | clientRequestArrival r => exact pending_event s fun u => pending_arrive u r
    | arbitration => exact pending_event s pending_arbitrate
    | memoryResponse q => exact pending_event s fun u => pending_respond u q
    | visit => exact pending_event s pending_visit
    | granuleClose => exact pending_event s pending_closeIfDue
    | txqSend => exact pending_event s pending_transmit
    | returnListSend => exact pending_event s pending_sendReturn
    | keepaliveExpiry ready => exact pending_event (f := (·.keepaliveExpired ready)) s fun u => pending_keepaliveExpired u ready
    | silentLimitExpiry => exact pending_event s pending_silentExpired
    | handshakeExpiry =>
      refine pending_event (f := fun u => if u.sourceIn .handshake then u.handshakeLoss else u) s fun u => ?_
      split <;> rfl
    | holdTimerExpiry =>
      exact pending_event (f := fun u => if u.sourceIn .cutover && u.sc.holdTimer.running then u.holdExpired else u) s
        fun u => by simp
    | linkUp => exact pending_event (f := fun u => u.setSc { u.sc with linkUp := true }) s fun _ => rfl
    | linkDown => exact pending_event s pending_linkGoesDown
    | frameArrival bs => exact pending_event s fun u => pending_receive u bs
    | unknown b ps => exact pending_event (f := (·.finish false false .unknown [])) s fun _ => rfl
    | powerOn => exact ⟨_, rfl, rfl⟩
    | powerOnRelease straps => exact ⟨_, rfl, by simp [State.release]⟩
    | lineReset => exact pending_event s fun _ => rfl
    | lineResetRelease straps => exact ⟨_, rfl, by simp [State.release]⟩
    | _ => cases hl

/-! ### Refused commands (R179, R180, R189) -/

/-- A command of the management line names no command of the part, or has a layout. -/
theorem unknown_or_layout {c : Instr} (h : c.managed = true) :
    (∃ b ps, c = .unknown b ps) ∨ ∃ ps n, c.layout = some (ps, n) := by
  have layout_some (h : c.layout.isSome = true) : ∃ ps n, c.layout = some (ps, n) := by
    obtain ⟨⟨ps, n⟩, hl⟩ := Option.isSome_iff_exists.1 h
    exact ⟨ps, n, hl⟩
  cases c with
  | unknown b ps => exact .inl ⟨b, ps, rfl⟩
  | _ => exact .inr (layout_some h)

/-- A guarded command has a layout. -/
theorem layout_of_guarded {c : Instr} (h : c.guarded = true) : ∃ ps n, c.layout = some (ps, n) := by
  cases c with
  | setFence flock ps => exact ⟨ps, 8, rfl⟩
  | lockFences ps => exact ⟨ps, 1, rfl⟩
  | start ps => exact ⟨ps, 0, rfl⟩
  | listen ps => exact ⟨ps, 0, rfl⟩
  | cutover ps => exact ⟨ps, 0, rfl⟩
  | detach ps => exact ⟨ps, 0, rfl⟩
  | takeover ps => exact ⟨ps, 1, rfl⟩
  | _ => cases h

theorem exec_unknown {s : State} (hp : s.phase = .running) (b : Byte) (ps : List Byte) :
    exec (.unknown b ps) s = .next (s.replying false false .unknown []) :=
  event_running s (·.finish false false .unknown []) hp

theorem command_length {guarded enable : Bool} {n : Nat} {ps : List Byte} {body : State → CommandResult} {s : State}
    (hp : s.phase = .running) (hg : guarded = true → s.mgp.armLatch = true) (hn : ps.length ≠ n) :
    command guarded n enable ps body s = .next (s.replying guarded false .param []) :=
  command_refused s hp (checked_length (s.setOut []) hg hn)

/-- A command whose result code is not OK has changed what a refusal writes and nothing else (R180, R189). -/
theorem exec_refused {c : Instr} {s t : State} (hp : s.phase = .running) (hm : c.managed = true) (h : exec c s = .next t)
    (hr : t.mgp.lastResult ≠ .ok) : t = s.replying c.guarded false t.mgp.lastResult [] := by
  obtain ⟨b, ps, rfl⟩ | ⟨ps, n, hl⟩ := unknown_or_layout hm
  · rw [exec_unknown hp] at h
    cases h
    rfl
  · obtain ⟨enable, body, hrun, -⟩ := exec_command hl
    rw [hrun] at h
    obtain ⟨hn, -⟩ | ⟨code, rfl⟩ | ⟨u, data, -, rfl⟩ := command_cases s h
    · exact absurd hp hn
    · rfl
    · exact absurd rfl hr

/-- Settles O33: `exec_refused`, and the checks of R179 in their order. -/
theorem refusedCommandChangesNothingElse : Obligations.RefusedCommandChangesNothingElse := by
  unfold Obligations.RefusedCommandChangesNothingElse
  refine fun c s hp => ⟨fun hm => ?_, fun hg ha => ?_, fun ps n hl hn hg => ?_, fun b ps hc => ?_⟩
  · obtain ⟨t, ht, -⟩ := everyCommandCompletes c s
    refine ⟨t, ht, fun hr => ?_⟩
    have hrefused := exec_refused hp hm ht hr
    exact ⟨hrefused, congrArg (fun u : State => u.mgp.reply.code) hrefused⟩
  · obtain ⟨ps, n, hl⟩ := layout_of_guarded hg
    obtain ⟨enable, body, hrun, -⟩ := exec_command hl
    rw [hrun, hg]
    exact command_unarmed hp ha
  · obtain ⟨enable, body, hrun, -⟩ := exec_command hl
    rw [hrun]
    exact command_length hp hg hn
  · rw [hc]
    exact exec_unknown hp b ps

/-! ### The arm latch (R180) -/

/-- At the end of a guarded command the arm latch is clear (R180). -/
theorem exec_guarded_armLatch {c : Instr} {s t : State} (hp : s.phase = .running) (hg : c.guarded = true)
    (h : exec c s = .next t) : t.mgp.armLatch = false := by
  obtain ⟨ps, n, hl⟩ := layout_of_guarded hg
  obtain ⟨enable, body, hrun, -⟩ := exec_command hl
  rw [hrun, hg] at h
  obtain ⟨hn, -⟩ | ⟨code, rfl⟩ | ⟨u, data, -, rfl⟩ := command_cases s h
  · exact absurd hp hn
  · exact Bool.and_false _
  · exact Bool.and_false _

/-- A command of the line that does not set the arm latch leaves it (R180). -/
theorem exec_keeps_armLatch {c : Instr} {s t : State} (hp : s.phase = .running) (hm : c.managed = true)
    (hc : setsLatch c = false) (hg : c.guarded = false) (h : exec c s = .next t) : t.mgp.armLatch = s.mgp.armLatch := by
  obtain ⟨b, ps, rfl⟩ | ⟨ps, n, hl⟩ := unknown_or_layout hm
  · rw [exec_unknown hp] at h
    cases h
    exact Bool.and_true _
  · obtain ⟨enable, body, hrun, hb⟩ := exec_command hl
    rw [hrun, hg] at h
    obtain ⟨-, rfl⟩ | ⟨code, rfl⟩ | ⟨u, data, hu, rfl⟩ := command_cases s h
    · rfl
    · exact Bool.and_true _
    · have hk := hb (s.setOut [])
      rw [hu, hc] at hk
      exact (Bool.and_true _).trans (hk.2 rfl)

/-- An unguarded command other than ARM, DISARM and RESET does not set the arm latch. -/
theorem setsLatch_eq_false {c : Instr} (hg : c.guarded = false)
    (hc : ∀ ps, c ≠ .arm ps ∧ c ≠ .disarm ps ∧ c ≠ .reset ps) : setsLatch c = false := by
  cases c with
  | arm ps => exact absurd rfl (hc ps).1
  | disarm ps => exact absurd rfl (hc ps).2.1
  | reset ps => exact absurd rfl (hc ps).2.2
  | _ => exact hg

/-- RESET clears the arm latch where it is accepted, and leaves it otherwise (R180, R192). -/
theorem exec_reset_armLatch {ps : List Byte} {s t : State} (hp : s.phase = .running) (h : exec (.reset ps) s = .next t) :
    t.mgp.armLatch = (s.mgp.armLatch && decide (t.mgp.lastResult ≠ .ok)) := by
  have refused {code : ResultCode} (hcode : code ≠ .ok) (ht : t = s.replying false false code []) :
      t.mgp.armLatch = (s.mgp.armLatch && decide (t.mgp.lastResult ≠ .ok)) := by
    subst ht
    simp [State.replying, hcode]
  have hlatch : ∀ u : State, exec (.reset ps) s = .next u → t = u := fun u hu => by
    rw [h] at hu
    cases hu
    rfl
  by_cases hn : ps.length = 0
  · cases he : s.mgp.resetEnable with
    | false =>
      exact refused (code := .state) nofun
        (hlatch _ (command_if_refuses (c := fun u => u.mgp.resetEnable) hp nofun hn he))
    | true =>
      rw [hlatch _ (command_if_accepts (c := fun u => u.mgp.resetEnable) (f := State.commandReset) hp nofun hn he)]
      exact (Bool.and_false _).symm
  · exact refused (code := .param) nofun (hlatch _ (command_length hp nofun hn))

theorem exec_lineReset {s : State} (hp : s.phase = .running) : exec .lineReset s = .next (s.setOut []).lineReset :=
  event_running s State.lineReset hp

theorem State.statusRecord_flags (s : State) : s.statusRecord[3]? = some (BitVec.ofNat 8 s.statusFlags) := by
  simp [State.statusRecord_eq, State.statusFields, layout_cons, toBytes]

theorem State.statusFlags_armLatch (s : State) : s.statusFlags.testBit 6 = s.mgp.armLatch := by
  have hbit : (s.statusFlags % 2 ^ (8 * 1)).testBit 6 = s.mgp.armLatch :=
    Option.some.inj (congrArg (·[6]?) s.testBit_statusFlags)
  rwa [Nat.testBit_mod_two_pow, decide_eq_true (by decide), Bool.true_and] at hbit

/-- Settles O35: ARM and DISARM by their meaning, every other command by whether it sets the latch. -/
theorem armLatch : Obligations.ArmLatch := by
  unfold Obligations.ArmLatch
  refine fun s hp => ⟨?_, ?_, fun c t hg h => exec_guarded_armLatch hp hg h,
    fun c t hm hg hc h => exec_keeps_armLatch hp hm (setsLatch_eq_false hg hc) hg h,
    fun ps t h => exec_reset_armLatch hp h, fun t h => ?_, s.statusRecord_flags, s.statusFlags_armLatch⟩
  · exact command_accepts (guarded := false) (n := 0) (ps := []) (data := [])
      (body := fun u => .accept (u.setMgp { u.mgp with armLatch := true }) []) hp nofun rfl rfl
  · exact command_accepts (guarded := false) (n := 0) (ps := []) (data := [])
      (body := fun u => .accept (u.setMgp { u.mgp with armLatch := false }) []) hp nofun rfl rfl
  · obtain h | h := h
    · cases h
      rfl
    · rw [exec_lineReset hp] at h
      cases h
      rfl

end Sys2Proof.Machine

/-! ## Alerts, their mask and the alert line -/

namespace Sys2Proof.Machine

open Sys2Proof

/-! ### ACK_ALERTS and SET_MASK (R187, R188) -/

/-- The flags that two bytes name: the twelve low bits (R199). -/
theorem alertFlags_pair (hi lo : Byte) : alertFlags [hi, lo] = BitVec.ofNat 12 (hi.toNat * 256 + lo.toNat) := by
  simp [alertFlags, field, fromBytes]

theorem exec_ackAlerts {s : State} (hp : s.phase = .running) (hi lo : Byte) : exec (.ackAlerts [hi, lo]) s =
    .next { s.replying false false .ok [] with
      au := { s.au with latch := s.au.latch &&& ~~~BitVec.ofNat 12 (hi.toNat * 256 + lo.toNat) } } := by
  rw [← alertFlags_pair]
  exact command_accepts (guarded := false) (n := 2) (ps := [hi, lo]) (data := [])
    (body := fun u => .accept (u.setAu { u.au with latch := u.au.latch &&& ~~~alertFlags [hi, lo] }) []) hp nofun rfl rfl

theorem exec_setMask {s : State} (hp : s.phase = .running) (hi lo : Byte) : exec (.setMask [hi, lo]) s =
    .next { s.replying false false .ok [] with
      au := { s.au with mask := BitVec.ofNat 12 (hi.toNat * 256 + lo.toNat) } } := by
  rw [← alertFlags_pair]
  exact command_accepts (guarded := false) (n := 2) (ps := [hi, lo]) (data := [])
    (body := fun u => .accept (u.setAu { u.au with mask := alertFlags [hi, lo] }) []) hp nofun rfl rfl

/-! ### The alert line (R187) -/

theorem Alert.index_lt (k : Alert) : k.index < 12 := by
  cases k <;> decide

/-- Every bit of the latch is the flag of a kind (R199). -/
theorem Alert.exists_index {i : Nat} (h : i < 12) : ∃ k : Alert, k.index = i := by
  have key : ∀ j : Fin 12, [Alert.passEnd, .eligible, .cutoverDone, .cutoverAbort, .cutoverGiveup, .nonconvergent, .syncLost,
      .txqHigh, .linkLost, .fault, .peerTakeover, .released][j].index = j := by decide
  exact ⟨_, key ⟨i, h⟩⟩

/-- The line is high exactly while a flag is set whose kind is unmasked (R187). -/
theorem State.alertLine_iff {s : State} (hp : s.phase = .running) : s.alertLine = true ↔
    ∃ k : Alert, s.au.latch.getLsbD k.index = true ∧ s.au.mask.getLsbD k.index = false := by
  have hline : s.alertLine = true ↔ s.au.latch &&& ~~~s.au.mask ≠ 0#12 := by simp [State.alertLine, hp]
  have hbit (i : Nat) (hi : i < 12) : (s.au.latch &&& ~~~s.au.mask).getLsbD i = true ↔
      s.au.latch.getLsbD i = true ∧ s.au.mask.getLsbD i = false := by simp [hi]
  rw [hline]
  constructor
  · intro hne
    by_contra hnone
    refine hne (BitVec.eq_of_getLsbD_eq fun i hi => ?_)
    obtain ⟨k, rfl⟩ := Alert.exists_index hi
    rw [BitVec.getLsbD_zero]
    exact eq_false_of_ne_true fun hset => hnone ⟨k, (hbit _ hi).1 hset⟩
  · rintro ⟨k, hk⟩ hzero
    have hset := (hbit _ k.index_lt).2 hk
    rw [hzero, BitVec.getLsbD_zero] at hset
    cases hset

/-- With nothing latched the line is low. -/
theorem State.alertLine_of_initial {s : State} (h : s.au = .initial) : s.alertLine = false := by
  simp [State.alertLine, h, Au.initial]

/-! ### The latch and the mask in the status record (R182) -/

theorem State.statusRecord_alerts (s : State) :
    (s.statusRecord.drop 56).take 4 = toBytes 2 s.au.latch.toNat ++ toBytes 2 s.au.mask.toNat := by
  have hsplit : s.statusRecord = layout (s.statusFields.take 37) ++
      ((toBytes 2 s.au.latch.toNat ++ toBytes 2 s.au.mask.toNat) ++ layout s.mgp.counters.fields) := by
    simp [s.statusRecord_eq, State.statusFields, layout_cons, layout_nil]
  have hlen : (layout (s.statusFields.take 37)).length = 56 := by simp [length_layout, State.statusFields]
  rw [hsplit, List.drop_left' hlen, List.take_left' (by simp)]

/-! ### Every reset masks every kind (R194) -/

theorem exec_reset_accepted {s : State} (hp : s.phase = .running) (he : s.mgp.resetEnable = true) :
    exec (.reset []) s = .next ((s.setOut []).commandReset.finish false false .ok []) :=
  command_if_accepts (c := fun u => u.mgp.resetEnable) (f := State.commandReset) hp nofun rfl he

/-- Every reset leaves the alert unit at its first values (R194). -/
theorem exec_reset_au {s t : State} (hp : s.phase = .running) (h : exec .powerOn s = .next t ∨ exec .lineReset s = .next t ∨
    s.mgp.resetEnable = true ∧ exec (.reset []) s = .next t) : t.au = .initial := by
  obtain h | h | ⟨he, h⟩ := h
  · cases h
    rfl
  · rw [exec_lineReset hp] at h
    cases h
    rfl
  · rw [exec_reset_accepted hp he] at h
    cases h
    rfl

/-- Settles O48: the two commands by their meaning, the line by the bits of the latch and the mask. -/
theorem alertsAndMask : Obligations.AlertsAndMask := by
  unfold Obligations.AlertsAndMask
  intro hi lo s hp
  refine ⟨exec_ackAlerts hp hi lo, exec_setMask hp hi lo, State.alertLine_iff hp, fun k j => ⟨s.latched_raise k j, rfl⟩,
    s.statusRecord_alerts, fun t h => ?_⟩
  have hau := exec_reset_au hp h
  exact ⟨congrArg Au.mask hau, State.alertLine_of_initial hau⟩

end Sys2Proof.Machine

/-! ## The event capture record and the counters -/

namespace Sys2Proof.Machine

open Sys2Proof

/-! ### READ_EVENT and CLEAR_COUNTERS (R184, R185) -/

theorem exec_readEvent {s : State} (hp : s.phase = .running) : exec (.readEvent []) s =
    .next { s.replying false false .ok s.mgp.event.bytes with
      mgp := { (s.replying false false .ok s.mgp.event.bytes).mgp with
        event := { s.mgp.event with unread := false, overrun := false } } } :=
  command_accepts (guarded := false) (n := 0) (ps := []) (data := s.mgp.event.bytes)
    (body := fun u => .accept u.eventRead u.mgp.event.bytes) hp nofun rfl rfl

theorem exec_clearCounters {s : State} (hp : s.phase = .running) : exec (.clearCounters []) s =
    .next { s.replying false false .ok [] with
      mgp := { (s.replying false false .ok []).mgp with counters := ⟨0, 0, 0, 0, 0, 0, 0, 0, 0⟩ }
      sr := { s.sr with overflow := false } } :=
  command_accepts (guarded := false) (n := 0) (ps := []) (data := [])
    (body := fun u => .accept u.clearCounters []) hp nofun rfl rfl

/-- A command that is always accepted, with a meaning that leaves the event record. -/
theorem event_of_command {guarded enable : Bool} {n : Nat} {ps : List Byte} {f : State → State} {data : State → List Byte}
    {s t : State} (hf : ∀ u, (f u).mgp.event = u.mgp.event)
    (h : command guarded n enable ps (fun u => .accept (f u) (data u)) s = .next t) : t.mgp.event = s.mgp.event := by
  obtain ⟨-, rfl⟩ | ⟨c, rfl⟩ | ⟨u, d, hu, rfl⟩ := command_cases s h
  · rfl
  · rfl
  · cases hu
    exact hf (s.setOut [])

/-- STATUS, CLEAR_COUNTERS and ACK_ALERTS leave the event record (R184). -/
theorem exec_keeps_event {ps : List Byte} {s t : State}
    (h : exec (.status ps) s = .next t ∨ exec (.clearCounters ps) s = .next t ∨ exec (.ackAlerts ps) s = .next t) :
    t.mgp.event = s.mgp.event := by
  obtain h | h | h := h
  · exact event_of_command (f := id) (data := State.statusRecord) (fun _ => rfl) h
  · exact event_of_command (f := State.clearCounters) (data := fun _ => []) (fun _ => rfl) h
  · exact event_of_command (f := fun u => u.setAu { u.au with latch := u.au.latch &&& ~~~alertFlags ps })
      (data := fun _ => []) (fun _ => rfl) h

/-! ### The fields of the record (11.3) -/

/-- The fields of the event capture record. -/
def EventRecord.fields (e : EventRecord) : List (Nat × Nat) :=
  [(1, e.kind.code), (1, bitVal e.unread 0 + bitVal e.overrun 1 + bitVal e.granule.isSome 2), (1, e.detail.tag),
    (3, e.granule.getD 0), (4, e.detail.value), (2, e.pass)]

theorem EventRecord.bytes_eq (e : EventRecord) : e.bytes = layout e.fields := by
  simp only [EventRecord.bytes, EventRecord.fields, layout_cons, layout_nil, List.append_nil, List.append_assoc]

theorem EventRecord.length_bytes (e : EventRecord) : e.bytes.length = 12 := by
  rw [e.bytes_eq, length_layout]
  rfl

theorem EventRecord.field_bytes (e : EventRecord) {off w x : Nat}
    (h : fieldFrom e.fields off = some (w, x) := by simp [fieldFrom, EventRecord.fields]) :
    field e.bytes off w = x % 2 ^ (8 * w) := by
  rw [e.bytes_eq, field_layout h]

theorem EventKind.lookup_code (k : EventKind) : [EventKind.none, .degrade, .discard, .need, .loss, .writeFail, .poison,
    .refusedWrite, .protect][k.code % 2 ^ (8 * 1)]? = some k := by
  cases k <;> rfl

theorem testBit_flags3 : ∀ a b c : Bool,
    (List.range 3).map ((bitVal a 0 + bitVal b 1 + bitVal c 2) % 2 ^ (8 * 1)).testBit = [a, b, c] := by
  decide

/-- The tag and the value of a detail that the record holds. -/
theorem EventRecord.field_detail {e : EventRecord} {d : Detail} (h : e.detail = d) :
    field e.bytes 2 1 = d.tag % 2 ^ (8 * 1) ∧ field e.bytes 6 4 = d.value % 2 ^ (8 * 4) :=
  h ▸ ⟨e.field_bytes, e.field_bytes⟩

/-- A detail that fits its field reads as it is. -/
theorem EventRecord.field_detail_bitVec {e : EventRecord} {d : Detail} {w : Nat} {x : BitVec w} (h : e.detail = d)
    (hd : d.value = x.toNat) (hw : w ≤ 32) : field e.bytes 2 1 = d.tag % 2 ^ (8 * 1) ∧ field e.bytes 6 4 = x.toNat := by
  obtain ⟨htag, hvalue⟩ := e.field_detail h
  refine ⟨htag, ?_⟩
  rw [hvalue, hd]
  exact Nat.mod_eq_of_lt (Nat.lt_of_lt_of_le x.isLt (Nat.pow_le_pow_right (by decide) hw))

/-- Settles O47: the commands by their meaning, the fields by the layout of the record. -/
theorem readEvent : Obligations.ReadEvent := by
  unfold Obligations.ReadEvent
  intro s hp
  dsimp only
  refine ⟨exec_readEvent hp, fun t ht => ?_, fun ps t h => exec_keeps_event h, fun k g d t ht => ?_,
    fun k g d => ⟨rfl, rfl⟩, exec_clearCounters hp, s.mgp.event.length_bytes,
    lookup_eq s.mgp.event.field_bytes s.mgp.event.kind.lookup_code, flags_eq s.mgp.event.field_bytes (testBit_flags3 _ _ _),
    s.mgp.event.field_bytes, s.mgp.event.field_bytes, EventRecord.field_detail,
    fun q hq => EventRecord.field_detail_bitVec hq rfl (by decide), fun a ha => EventRecord.field_detail ha,
    fun k hk => EventRecord.field_detail_bitVec hk rfl (by decide),
    fun k hk => EventRecord.field_detail_bitVec hk rfl (by decide)⟩
  · rw [exec_readEvent hp] at ht
    have hpt : t.phase = .running := by
      cases ht
      exact hp
    rw [exec_readEvent hpt]
    cases ht
    simp [State.replying]
  · rw [exec_readEvent hp] at ht
    cases ht
    exact ⟨rfl, rfl⟩

end Sys2Proof.Machine

/-! ## Frames on the wire -/

namespace Sys2Proof.Machine

open Sys2Proof

/-- Settles O59: the CRC is the one of the body, and what stands before it is the body, which `parse_body` reads back kind by
kind. -/
theorem frameBytesRoundTrip : Obligations.FrameBytesRoundTrip := by
  unfold Obligations.FrameBytesRoundTrip
  intro f hwf
  refine ⟨f.crc_bytes, ?_⟩
  rw [f.body_bytes]
  exact parse_body hwf

end Sys2Proof.Machine
